-- ==== Sys2Proof/Word.lean ====
section
/-! DEFINITION. The widths of the spec's values (00_scope.md R7): a byte is an unsigned 8-bit value, u16 and u32 are
unsigned 16-bit and 32-bit values, every host register is 32 bits wide (10_state.md, head of the file) and a host
address is a 16-bit byte offset (20_memory.md R60). Wrapping arithmetic is BitVec's own. -/

namespace Sys2Proof

/-- A byte: a wire byte, a buffer byte, an opcode (R7). -/
abbrev Byte := BitVec 8

/-- A u16 (R7). -/
abbrev Half := BitVec 16

/-- A u32: one host register, one clock reading (R7). -/
abbrev Word := BitVec 32

/-- A byte offset in the block's register address space (R60). -/
abbrev Offset := BitVec 16

end Sys2Proof
end

