-- ==== Sys2Proof/Syntax.lean ====
section
/-! DEFINITION. The instructions: the ten commands of spec/opcode_table.json (30_encoding.md R91), one constructor a row,
in the table's order. -/

namespace Sys2Proof

/-- A command the host issues by writing CMD (30_encoding.md R90, R91). -/
inductive Instr where
  /-- NOP, 0x00 (43_link_controller.md R230). -/
  | nop
  /-- TX_SEND, 0x01 (43_link_controller.md R231). -/
  | txSend
  /-- RX_REARM, 0x02 (43_link_controller.md R233). -/
  | rxRearm
  /-- CHK_COMPUTE, 0x03 (42_checksum.md R196). -/
  | chkCompute
  /-- CHK_VERIFY, 0x04 (42_checksum.md R197). -/
  | chkVerify
  /-- SEND_COMMAND, 0x10 (43_link_controller.md R234). -/
  | sendCommand
  /-- PROBE, 0x11 (44_baud_prober.md R253). -/
  | probe
  /-- DETECT_SPEED, 0x12 (44_baud_prober.md R254). -/
  | detectSpeed
  /-- FORCE_DEFAULT, 0x13 (44_baud_prober.md R255). -/
  | forceDefault
  /-- SET_SPEED_SAFELY t, 0x14 (44_baud_prober.md R256); `t` is ARG, an unsigned 8-bit table index (30_encoding.md R92). -/
  | setSpeedSafely (t : Byte)
  deriving DecidableEq, Repr

/-- What the decoder makes of a command word (30_encoding.md R93, R95): exactly one command, or one rejection by name. -/
inductive Decoded where
  /-- The word is this command. -/
  | run (i : Instr)
  /-- OPC is not one of the ten opcodes (R93). -/
  | illegalOpcode
  /-- A legal OPC with RSV nonzero, or with ARG nonzero where the command has no operand (R93). -/
  | reservedBits
  deriving DecidableEq, Repr

end Sys2Proof
end

