-- ==== Sys2Proof/Decode.lean ====
section
/-! DEFINITION. The command word (30_encoding.md R90 to R96): decoding, total on every 32-bit word and rejecting by name,
and after it the encoder, written from the same tables. -/

namespace Sys2Proof

/-- OPC, bits[7:0] of the command word (R90). -/
def opcOf (w : Word) : Byte := w.extractLsb' 0 8

/-- ARG, bits[15:8] of the command word (R90). -/
def argOf (w : Word) : Byte := w.extractLsb' 8 8

/-- RSV, bits[31:16] of the command word (R90). -/
def rsvOf (w : Word) : Half := w.extractLsb' 16 16

/-- The opcode map of R91, with ARG as the operand of SET_SPEED_SAFELY; any other OPC is illegal (R93). -/
def instrOf (opc arg : Byte) : Option Instr :=
  match opc.toNat with
  | 0x00 => some .nop
  | 0x01 => some .txSend
  | 0x02 => some .rxRearm
  | 0x03 => some .chkCompute
  | 0x04 => some .chkVerify
  | 0x10 => some .sendCommand
  | 0x11 => some .probe
  | 0x12 => some .detectSpeed
  | 0x13 => some .forceDefault
  | 0x14 => some (.setSpeedSafely arg)
  | _    => none

/-- "rsv != 0 or (opc != 0x14 and arg != 0)" (R95). -/
def reservedSet (w : Word) : Bool := rsvOf w != 0 || (opcOf w != 0x14 && argOf w != 0)

/-- DecodeCmd's first two checks, in their order (R95): the opcode, then the reserved bits. The acceptance checks that
follow read the state and stand in each command's meaning (60_exceptions.md R301). -/
def decode (w : Word) : Decoded :=
  match instrOf (opcOf w) (argOf w) with
  | none   => .illegalOpcode
  | some i => if reservedSet w then .reservedBits else .run i

/-- The OPC of a command (R91). -/
def Instr.opcode : Instr → Byte
  | .nop              => 0x00
  | .txSend           => 0x01
  | .rxRearm          => 0x02
  | .chkCompute       => 0x03
  | .chkVerify        => 0x04
  | .sendCommand      => 0x10
  | .probe            => 0x11
  | .detectSpeed      => 0x12
  | .forceDefault     => 0x13
  | .setSpeedSafely _ => 0x14

/-- The ARG of a command: the target index of SET_SPEED_SAFELY, 0 for every other (R90). -/
def Instr.arg : Instr → Byte
  | .setSpeedSafely t => t
  | .nop | .txSend | .rxRearm | .chkCompute | .chkVerify
  | .sendCommand | .probe | .detectSpeed | .forceDefault => 0

/-- The command word of a command: RSV 0, then ARG, then OPC (R90). -/
def encode (i : Instr) : Word := (0 : Half) ++ i.arg ++ i.opcode

/-- The instruction the decoder reads from a word whose `nbits` low bits are `w`'s and whose other bits are 0; none where
it rejects. A command is one 32-bit register write, so there is no byte order to lay out (R90, R96). -/
def decodeTableWord (nbits w : Nat) : Option Instr :=
  match decode (BitVec.ofNat 32 (w % 2 ^ nbits)) with
  | .run i         => some i
  | .illegalOpcode => none
  | .reservedBits  => none

end Sys2Proof
end

