-- ==== Sys2Proof/Config.lean ====
section
/-! DEFINITION. What is fixed for one block and what the spec leaves to the environment: the implementation parameters
of 00_scope.md R5 as plain data, the steps the environment may choose (20_memory.md R70), and the model's free values,
which have no body, so no proof can see what they are. -/

namespace Sys2Proof

/-- The implementation parameters (00_scope.md R5). K is the length of `speeds`. CMD_SETSPEED is kept as one text per
table entry, since the block only ever sends it for a speed of its table (44_baud_prober.md R256). -/
structure Config where
  /-- N_CAP, the payload width in bytes. -/
  nCap         : Nat
  /-- START, the start marker byte. -/
  startMark    : Byte
  /-- END, the end marker byte. -/
  endMark      : Byte
  /-- DELIM, the checksum delimiter byte. -/
  delim        : Byte
  /-- CHK_MAX_CAP, the largest N_CAP that allows checksum mode. -/
  chkMaxCap    : Nat
  /-- SPEEDS[0..K-1], the candidate speed table. -/
  speeds       : List Word
  /-- INIT_SPEED_IDX, the table index the transport opens at. -/
  initSpeedIdx : Nat
  /-- CMD_CAP, the command text capacity in bytes. -/
  cmdCap       : Nat
  /-- RESP_CAP, the response buffer capacity in bytes. -/
  respCap      : Nat
  /-- SET_LOW_TIME, in ms. -/
  setLowTime    : Word
  /-- SET_HIGH_TIME, in ms. -/
  setHighTime   : Word
  /-- CMD_TIME, in ms. -/
  cmdTime       : Word
  /-- TRANSFER_DELAY, in ms. -/
  transferDelay : Word
  /-- T_RECONF_PRE, in ms. -/
  tReconfPre    : Word
  /-- T_RECONF_POST, in ms. -/
  tReconfPost   : Word
  /-- CMD_DETECT, the inert diagnostic command. -/
  cmdDetect    : List Byte
  /-- CMD_DEFAULT, the reset-to-default command. -/
  cmdDefault   : List Byte
  /-- CMD_SETSPEED(SPEEDS[i]) at place i; the empty text where the list has no place i (log entry 17). -/
  cmdSetSpeed  : List (List Byte)
  deriving DecidableEq, Repr

namespace Config

/-- K, the number of candidate speeds (R5). -/
def k (c : Config) : Nat := c.speeds.length

/-- CHK_AVAIL: checksum mode can be enabled (10_state.md R21, R22). -/
def chkAvail (c : Config) : Bool := decide (c.nCap ≤ c.chkMaxCap)

/-- CHK_DIGITS, the checksum field's width, a fixed literal of the wire format (R5). -/
def chkDigits : Nat := 5

end Config

/-- The block's five byte buffers (10_state.md R42 to R46). -/
inductive Buffer where
  | tx | rx | rxChk | cmd | resp
  deriving DecidableEq, Repr

/-- How many bytes each buffer has (R5, R30, R42 to R45). -/
def Config.capacity (c : Config) : Buffer → Nat
  | .tx    => c.nCap
  | .rx    => c.nCap
  | .rxChk => Config.chkDigits
  | .cmd   => c.cmdCap
  | .resp  => c.respCap

/-- One atomic step of an execution (20_memory.md R70): a host access, a decoder step, a sequencer step, a step of the
environment (the transport delivers or accepts a byte, the clock advances), or the reset input (70_reset_and_hazards.md
R340). -/
inductive Event where
  /-- MemRead(addr, size) (R61). -/
  | hostRead (size : Nat) (addr : Offset)
  /-- MemWrite(addr, size, v) (R61). -/
  | hostWrite (size : Nat) (addr : Offset) (v : Word)
  /-- The frame decoder takes a step, if one is enabled (41_decode.md R150). -/
  | decoderStep
  /-- The sequencer takes a step, if it has one (43_link_controller.md R213). -/
  | sequencerStep
  /-- The transport accepts the byte the sequencer offers, if it offers one (R214). -/
  | transportAccept
  /-- The transport delivers one received byte (R2). -/
  | transportDeliver (b : Byte)
  /-- The transport's receive queue becomes `q`: overrun, or what a speed change does to queued bytes. Both are the
  transport's own (92_eei_decisions.md D40; 93_implementation_defined.md U11). -/
  | transportRequeue (q : List Byte)
  /-- The clock advances by `ms` milliseconds (R2, R70). -/
  | clockAdvance (ms : Word)
  /-- The reset input (R340). -/
  | reset
  deriving DecidableEq, Repr, Inhabited

/-- FREE VALUE: the event the environment picks next when `State.pending` names none. "Any enabled step may come next"
(20_memory.md R70): nothing constrains the choice. Log entry 3. -/
opaque Config.freeEvent : Nat → Event

/-- FREE VALUE: the byte at index `i` of a buffer after the reset drawn with that number. "A model draws them freely (any
value)" (70_reset_and_hazards.md R344). Log entry 4. -/
opaque Config.resetByte : Nat → Buffer → Nat → Byte

/-- "AT" (00_scope.md R5; its character codes are R9's). -/
def Config.textAt : List Byte := [0x41, 0x54]

/-- "AT+DEFAULT" (R5, [from general knowledge, not in source] there). -/
def Config.textAtDefault : List Byte := [0x41, 0x54, 0x2B, 0x44, 0x45, 0x46, 0x41, 0x55, 0x4C, 0x54]

/-- "AT+B" (R5, [from general knowledge, not in source] there). -/
def Config.textAtB : List Byte := [0x41, 0x54, 0x2B, 0x42]

/-- The configuration of the block at State.reset. Every parameter the spec gives a default for has it (00_scope.md R5);
the OPEN ones have the values of the spec's own vectors (95_test_vectors.md, parameter set TP1 and program P3). DESIGN
CHOICE, unsafe: log entry 2. A statement about every state holds for every configuration. -/
def Config.default : Config where
  nCap         := 4
  startMark    := 0x3C
  endMark      := 0x3E
  delim        := 0x2C
  chkMaxCap    := 255
  speeds       := [1200, 2400, 4800, 9600, 19200, 38400, 57600, 115200]
  initSpeedIdx := 3
  cmdCap       := 16
  respCap      := 16
  setLowTime    := 40
  setHighTime   := 50
  cmdTime       := 100
  transferDelay := 100
  tReconfPre    := 10
  tReconfPost   := 10
  cmdDetect    := Config.textAt
  cmdDefault   := Config.textAtDefault
  cmdSetSpeed  :=
    [ Config.textAtB ++ [0x31, 0x32, 0x30, 0x30],
      Config.textAtB ++ [0x32, 0x34, 0x30, 0x30],
      Config.textAtB ++ [0x34, 0x38, 0x30, 0x30],
      Config.textAtB ++ [0x39, 0x36, 0x30, 0x30],
      Config.textAtB ++ [0x31, 0x39, 0x32, 0x30, 0x30],
      Config.textAtB ++ [0x33, 0x38, 0x34, 0x30, 0x30],
      Config.textAtB ++ [0x35, 0x37, 0x36, 0x30, 0x30],
      Config.textAtB ++ [0x31, 0x31, 0x35, 0x32, 0x30, 0x30] ]

end Sys2Proof
end

