-- ==== Sys2Proof/Machine/State.lean ====
section
/-! DEFINITION. The machine's state as plain data: every piece of state of 10_state.md, grouped as the spec groups it (host
registers, decoder state R46, link state R48, sequencer state R47), beside the configuration (R50) and the environment agents
the block acts on (00_scope.md R2). Then the reasons a step can stop, and the state after reset. -/

namespace Sys2Proof.Machine

/-- CTRL.FMT (10_state.md R21); 3 is not a value of the field. -/
inductive Fmt where
  | text | uint | sint
  deriving DecidableEq, Repr

/-- CTRL (R21). -/
structure Ctrl where
  chkEn : Bool
  fmt   : Fmt
  deriving DecidableEq, Repr

/-- CMD_STATUS.CAUSE (60_exceptions.md R301), code 0 first. -/
inductive Cause where
  | accepted | illegalOpcode | reservedBits | busy | badOperand | txNotReady | noFrame
  deriving DecidableEq, Repr

/-- CMD_STATUS (R23). -/
structure CmdStatus where
  cause   : Cause
  lastOpc : Byte
  deriving DecidableEq, Repr

/-- STATUS.RX_STATE (R22). -/
inductive RxPhase where
  | idle | readingPayload | readingChecksum | frameComplete
  deriving DecidableEq, Repr

/-- VERIFY (R31). -/
structure VerifyReg where
  valid  : Bool
  ok     : Bool
  parsed : Bool
  mode   : Bool
  value  : Half
  deriving DecidableEq, Repr

/-- The decoder state: "It is exactly" these fields (R46). -/
structure Rx where
  /-- STATUS.RX_STATE (R22). -/
  phase  : RxPhase
  /-- RX_LEN (R28), at most N_CAP. -/
  len    : Nat
  /-- RX_CHK_LEN (R29), at most 5. -/
  chkLen : Nat
  /-- RXBUF[0..N_CAP-1] (R43). -/
  buf    : List Byte
  /-- RXCHK[0..4] (R30). -/
  chk    : List Byte
  /-- STATUS.RX_TRUNC (R22). -/
  trunc  : Bool
  /-- STATUS.RX_CHK_OVF (R22). -/
  chkOvf : Bool
  /-- VERIFY (R31). -/
  verify : VerifyReg
  deriving DecidableEq, Repr

/-- RESP_STATUS (R33). -/
structure RespStatus where
  len   : Nat
  ovf   : Bool
  valid : Bool
  deriving DecidableEq, Repr

/-- The link state (R48). -/
structure Link where
  /-- STATUS.SENDING (R22). -/
  sending  : Bool
  /-- LAST_SEND (R38). -/
  lastSend : Word
  /-- STATUS.MODE_HIGH, the level of the mode line (R22). -/
  modeHigh : Bool
  /-- SPEED_IDX (R36), below K. -/
  speedIdx : Nat
  /-- RESPBUF[0..RESP_CAP-1] (R45). -/
  respBuf  : List Byte
  /-- RESP_STATUS (R33). -/
  resp     : RespStatus
  deriving DecidableEq, Repr

/-- PROBE (R34). -/
structure ProbeReg where
  valid    : Bool
  found    : Bool
  overflow : Bool
  index    : Byte
  deriving DecidableEq, Repr

/-- SETSPEED (R35). -/
structure SetSpeedReg where
  valid  : Bool
  ack    : Bool
  target : Byte
  deriving DecidableEq, Repr

/-- `op`, the running sequencer command (R47), the reset settle phase among them (70_reset_and_hazards.md R341). -/
inductive Op where
  | resetSettle | txSend | sendCommand | probe | detectSpeed | forceDefault | setSpeedSafely
  deriving DecidableEq, Repr

/-- Which part of a command's pseudocode the sequencer is in (`phase`, R47). -/
inductive Stage where
  /-- The command's own SendCommand: SEND_COMMAND, and SET_SPEED_SAFELY's first (44_baud_prober.md R256). -/
  | direct
  /-- SET_SPEED_SAFELY's Reconf(t) after an acknowledgement (R256). -/
  | follow
  /-- A loop over the speed table: ProbeLoop (R252) or FORCE_DEFAULT's (R255). -/
  | search
  deriving DecidableEq, Repr

/-- The primitive the sequencer is held at (`phase`, R47). -/
inductive Point where
  /-- Accepted; the sequencer has taken no step of the command yet. -/
  | start
  /-- The reset settle wait (70_reset_and_hazards.md R341). -/
  | settle
  /-- TxByte(F[k]) of TX_SEND (43_link_controller.md R231). -/
  | txFrame
  /-- Wait(T_RECONF_PRE) of Reconf (44_baud_prober.md R250). -/
  | reconfPre
  /-- Wait(T_RECONF_POST) of Reconf (R250). -/
  | reconfPost
  /-- Wait(SET_LOW_TIME) of SendCommand (43_link_controller.md R220). -/
  | setLow
  /-- TxByte(text[k]) of SendCommand (R220). -/
  | txText
  /-- Wait(CMD_TIME) of SendCommand (R220). -/
  | cmdTime
  /-- The head of SendCommand's drain loop (R220). -/
  | drain
  /-- Wait(SET_HIGH_TIME) of SendCommand (R220). -/
  | setHigh
  deriving DecidableEq, Repr

/-- `snap`, "the inputs copied when the command was accepted" (R47): the wire frame of TX_SEND or the command text, and
ARG. -/
structure Snap where
  bytes : List Byte
  arg   : Byte
  deriving DecidableEq, Repr

/-- The sequencer state (R47). -/
structure Seq where
  op    : Option Op
  stage : Stage
  point : Point
  snap  : Snap
  /-- The start time of the running Wait. -/
  t0    : Word
  /-- The loop index of PROBE and FORCE_DEFAULT. -/
  i     : Nat
  /-- The byte index within the frame or command being written. -/
  k     : Nat
  /-- The private result of the SendCommand inside SET_SPEED_SAFELY. -/
  ack   : Bool
  /-- `ovf` of the running SendCommand, between its drain and its end (43_link_controller.md R220). -/
  ovf   : Bool
  deriving DecidableEq, Repr

/-- A diagnostic event (44_baud_prober.md R254); its text is unspecified (92_eei_decisions.md D30). -/
inductive Diag where
  | found (i : Nat)
  | overflow (i : Nat)
  | notFound
  deriving DecidableEq, Repr

/-- What the block does at an output port (60_exceptions.md R313). -/
inductive PortAct where
  /-- TxByte(b), in the step in which the transport accepts b. -/
  | txByte (b : Byte)
  /-- SetMode(HIGH) is `true`, SetMode(LOW) is `false`. -/
  | setMode (high : Bool)
  /-- Reconfigure(s). -/
  | reconfigure (s : Word)
  /-- Emit(e). -/
  | emit (d : Diag)
  deriving DecidableEq, Repr

/-- The whole machine. -/
structure State where
  /-- The configuration, which nothing changes (00_scope.md R5). -/
  cfg       : Config
  /-- CTRL (R21). -/
  ctrl      : Ctrl
  /-- CMD_STATUS (R23). -/
  cmdStatus : CmdStatus
  /-- TX_LEN.LEN (R25). -/
  txLen     : Half
  /-- TX_NUM (R26). -/
  txNum     : Word
  /-- TXBUF[0..N_CAP-1] (R42). -/
  txBuf     : List Byte
  /-- CMD_LEN.LEN (R32). -/
  cmdLen    : Half
  /-- CMDBUF[0..CMD_CAP-1] (R44). -/
  cmdBuf    : List Byte
  /-- CHK_VALUE.VALUE (R27). -/
  chkValue  : Half
  /-- STATUS.BUSY (R22). -/
  busy      : Bool
  /-- STATUS.CMD_ACTIVE (R22). -/
  cmdActive : Bool
  /-- The decoder state (R46). -/
  rx        : Rx
  /-- The link state (R48). -/
  link      : Link
  /-- PROBE (R34). -/
  probe     : ProbeReg
  /-- SETSPEED (R35). -/
  setSpeed  : SetSpeedReg
  /-- The sequencer state (R47). -/
  seq       : Seq
  /-- Environment: the clock input Now() (R39). -/
  now       : Word
  /-- Environment: the bytes the transport holds for the block, oldest first (00_scope.md R2). -/
  rxQueue   : List Byte
  /-- Environment: everything the block did at its output ports, newest first (60_exceptions.md R313). -/
  trace     : List PortAct
  /-- Environment: the value the last host read returned (20_memory.md R61). -/
  rdata     : Word
  /-- The model's own: the steps that are to come next, oldest first (20_memory.md R70). -/
  pending   : List Event
  /-- The model's own: how many free values have been drawn. -/
  draws     : Nat
  deriving DecidableEq, Repr

/-- Reasons a step stops with a fault. There are none: "all failures are reported as result values", and the holds of a
transport that never accepts or a clock that never advances "are stuck states of the environment's making, not faults"
(60_exceptions.md, head of the file and R307). -/
inductive Fault where
  deriving DecidableEq, Repr

/-- Reasons a step is refused. "Those are the only refusals" (60_exceptions.md R307) names the second and the third. -/
inductive Refusal where
  /-- Raised by exec's arm of an instruction that has no meaning yet. Safe. No arm raises it. -/
  | notModelled (mnemonic : String)
  /-- Raised by a host access that is not 32 bits wide or not aligned: "that access has no step" (20_memory.md R61). Safe. -/
  | badAccess
  /-- Raised by every step of a block whose configuration is not well-formed: "A model admits no other configuration"
  (00_scope.md R6). Safe. -/
  | illFormedConfig
  deriving DecidableEq, Repr

/-- The contents of a buffer after a reset: unspecified, so drawn freely (70_reset_and_hazards.md R344). -/
def drawnBuffer (cfg : Config) (draw : Nat) (b : Buffer) : List Byte :=
  (List.range (cfg.capacity b)).map (Config.resetByte draw b)

/-- The state a power-up with clock reading `now` leaves (70_reset_and_hazards.md R340 to R344), the buffers' contents being
draw number `draw`. The transport holds no byte yet, and the port actions are those of the reset step itself (R341). -/
def State.powerOn (cfg : Config) (now : Word) (draw : Nat) : State where
  cfg       := cfg
  ctrl      := { chkEn := false, fmt := .text }
  cmdStatus := { cause := .accepted, lastOpc := 0 }
  txLen     := 0
  txNum     := 0
  txBuf     := drawnBuffer cfg draw .tx
  cmdLen    := 0
  cmdBuf    := drawnBuffer cfg draw .cmd
  chkValue  := 0
  busy      := true
  cmdActive := false
  rx :=
    { phase := .idle, len := 0, chkLen := 0, buf := drawnBuffer cfg draw .rx, chk := drawnBuffer cfg draw .rxChk,
      trunc := false, chkOvf := false,
      verify := { valid := false, ok := false, parsed := false, mode := false, value := 0 } }
  link :=
    { sending := false, lastSend := now, modeHigh := true, speedIdx := cfg.initSpeedIdx,
      respBuf := drawnBuffer cfg draw .resp, resp := { len := 0, ovf := false, valid := false } }
  probe    := { valid := false, found := false, overflow := false, index := 0 }
  setSpeed := { valid := false, ack := false, target := 0 }
  seq :=
    { op := some .resetSettle, stage := .direct, point := .settle, snap := { bytes := [], arg := 0 }, t0 := now,
      i := 0, k := 0, ack := false, ovf := false }
  now      := now
  rxQueue  := []
  trace    := [.reconfigure (cfg.speeds.getD cfg.initSpeedIdx 0), .setMode true]
  rdata    := 0
  pending  := []
  draws    := draw + 1

/-- The machine right after power-up, with the configuration of log entry 2 and the clock reading of log entry 6. -/
def State.reset : State := State.powerOn Config.default 0 0

/-- The contents of a buffer. -/
def State.buffer (s : State) : Buffer → List Byte
  | .tx    => s.txBuf
  | .rx    => s.rx.buf
  | .rxChk => s.rx.chk
  | .cmd   => s.cmdBuf
  | .resp  => s.link.respBuf

/-- Byte `i` of a buffer as the buffer stores it, whatever a window's mask shows of it (00_scope.md R7). -/
def State.byteAt (s : State) (b : Buffer) (i : Nat) : Byte := (s.buffer b).getD i 0

/-- The one form a state's buffers have: each holds exactly as many bytes as its capacity (00_scope.md R5; R42 to R46). -/
def Memory.wf (s : State) : Bool :=
  [Buffer.tx, .rx, .rxChk, .cmd, .resp].all fun b => (s.buffer b).length == s.cfg.capacity b

end Sys2Proof.Machine
end

