-- ==== Sys2Proof/Machine/Ops.lean ====
section
/-! DEFINITION. The named operations over state that every agent and every command shares: byte lanes, buffers, output
ports, the outcome of a command write (the block's one exception mechanism, 60_exceptions.md R300, and its acceptance), the
return from the receive lock (R310), the start and the end of a sequencer command, the waits' bookkeeping, and reset. -/

namespace Sys2Proof.Machine

/-- CTRL.CHK_EN as every reader sees it: "hardwired 0 if N_CAP > CHK_MAX_CAP" (10_state.md R21). -/
def chkEnabled (s : State) : Bool := s.ctrl.chkEn && s.cfg.chkAvail

/-! ## Byte lanes (20_memory.md R62) -/

/-- Lane `k` of a word: bits [8k+7 : 8k]. -/
def laneOf (v : Word) (k : Nat) : Byte := v.extractLsb' (8 * k) 8

/-- The word whose lanes 0 to 3 are the given bytes, "BUF[4j] in bits[7:0]" and so on upwards. -/
def packLanes (b0 b1 b2 b3 : Byte) : Word := b3 ++ b2 ++ b1 ++ b0

/-- What a read shows of byte `i` of a buffer when only bytes below `limit` are visible: a lane whose index is at or past
the limit reads 0x00 (10_state.md R30, R42, R43, R45). -/
def maskedByte (buf : List Byte) (limit i : Nat) : Byte := if i < limit then buf.getD i 0 else 0

/-- Word `j` of a byte window. -/
def windowWord (buf : List Byte) (limit j : Nat) : Word :=
  packLanes (maskedByte buf limit (4 * j)) (maskedByte buf limit (4 * j + 1))
    (maskedByte buf limit (4 * j + 2)) (maskedByte buf limit (4 * j + 3))

/-- Write one lane: "Lanes past the buffer's capacity are not stored" (R62). -/
def putByte (cap : Nat) (buf : List Byte) (i : Nat) (b : Byte) : List Byte := if i < cap then buf.set i b else buf

/-- Write word `j` of a window: "A window write always writes all four lanes of its word" (20_memory.md R63). -/
def putWord (cap : Nat) (buf : List Byte) (j : Nat) (v : Word) : List Byte :=
  putByte cap (putByte cap (putByte cap (putByte cap buf (4 * j) (laneOf v 0)) (4 * j + 1) (laneOf v 1))
    (4 * j + 2) (laneOf v 2)) (4 * j + 3) (laneOf v 3)

/-! ## Output ports (00_scope.md R8, 60_exceptions.md R313) -/

/-- TxByte(b), in the step in which the transport accepts b (43_link_controller.md R214). -/
def sendByte (b : Byte) (s : State) : State := { s with trace := .txByte b :: s.trace }

/-- SetMode(LOW|HIGH) with its status bit, "SetMode(LOW); MODE_HIGH <- 0" (43_link_controller.md R220). -/
def setMode (high : Bool) (s : State) : State :=
  { s with trace := .setMode high :: s.trace, link := { s.link with modeHigh := high } }

/-- SPEEDS[i] (00_scope.md R5). -/
def speedAt (c : Config) (i : Nat) : Word := c.speeds.getD i 0

/-- "Reconfigure(SPEEDS[i]); SPEED_IDX <- i" (44_baud_prober.md R250). -/
def reconfigureTo (i : Nat) (s : State) : State :=
  { s with trace := .reconfigure (speedAt s.cfg i) :: s.trace, link := { s.link with speedIdx := i } }

/-- Emit(e), which never blocks (00_scope.md R8). -/
def emit (d : Diag) (s : State) : State := { s with trace := .emit d :: s.trace }

/-! ## The outcome of a command write -/

/-- "Every CMD write sets both fields. Nothing else writes them" (10_state.md R23). -/
def setCmdStatus (c : Cause) (opc : Byte) (s : State) : State :=
  { s with cmdStatus := { cause := c, lastOpc := opc } }

/-- raise Reject(cause), the whole of it: CMD_STATUS.CAUSE and CMD_STATUS.LAST_OPC are written and "No other register,
buffer, agent or port changes" (60_exceptions.md R300). -/
def reject (c : Cause) (opc : Byte) (s : State) : Host.Outcome State Fault Refusal := .next (setCmdStatus c opc s)

/-- Acceptance: CMD_STATUS.CAUSE <- ACCEPTED and CMD_STATUS.LAST_OPC <- OPC (60_exceptions.md R302). -/
def accept (opc : Byte) (s : State) : State := setCmdStatus .accepted opc s

/-- The return from the receive lock, the one return in the block (60_exceptions.md R310), with what RX_REARM clears:
"RX_STATE <- 0; RX_LEN <- 0; RX_CHK_LEN <- 0; RX_TRUNC <- 0; RX_CHK_OVF <- 0; VERIFY <- 0" (43_link_controller.md R233). The
buffers' bytes stay. -/
def rearm (r : Rx) : Rx :=
  { r with
    phase := .idle, len := 0, chkLen := 0, trunc := false, chkOvf := false,
    verify := { valid := false, ok := false, parsed := false, mode := false, value := 0 } }

/-! ## The sequencer's bookkeeping -/

/-- The acceptance of a command-mode command: "BUSY <- 1; CMD_ACTIVE <- 1; CMD_STATUS.CAUSE <- ACCEPTED", with the inputs
copied (10_state.md R47; 43_link_controller.md R234, R235; 44_baud_prober.md R253 to R256). -/
def startCommandMode (op : Op) (opc : Byte) (stage : Stage) (snap : Snap) (s : State) : State :=
  { accept opc s with
    busy := true, cmdActive := true,
    seq := { s.seq with op := some op, stage := stage, point := .start, snap := snap } }

/-- The acceptance of TX_SEND with its encoded frame: "BUSY <- 1; SENDING <- 1". The sequencer's first primitive is
TxByte(F[0]) (43_link_controller.md R231). -/
def startTxSend (opc : Byte) (frame : List Byte) (s : State) : State :=
  { accept opc s with
    busy := true, link := { s.link with sending := true },
    seq := { s.seq with
      op := some .txSend, stage := .direct, point := .txFrame, snap := { bytes := frame, arg := 0 }, k := 0 } }

/-- The last step of TX_SEND: "SENDING <- 0; LAST_SEND <- Now(); BUSY <- 0" (43_link_controller.md R231). -/
def endTxSend (s : State) : State :=
  { s with
    busy := false, link := { s.link with sending := false, lastSend := s.now }, seq := { s.seq with op := none } }

/-- The last step of a command-mode command: "CMD_ACTIVE <- 0; BUSY <- 0" (43_link_controller.md R234, R235). -/
def endCommandMode (s : State) : State :=
  { s with busy := false, cmdActive := false, seq := { s.seq with op := none } }

/-- The end of the reset settle phase: "op <- none; BUSY <- 0" (70_reset_and_hazards.md R341). -/
def endSettle (s : State) : State := { s with busy := false, seq := { s.seq with op := none } }

/-- Hold the sequencer at a primitive. -/
def holdAt (p : Point) (s : State) : State := { s with seq := { s.seq with point := p } }

/-- Begin writing a command text at its first byte (43_link_controller.md R220, R222). -/
def startText (s : State) : State := { s with seq := { s.seq with point := .txText, k := 0 } }

/-- Move on to the next byte of the frame or text being written (43_link_controller.md R214). -/
def nextByte (s : State) : State := { s with seq := { s.seq with k := s.seq.k + 1 } }

/-- "t0 <- Now() -- in the step that reaches the Wait" (43_link_controller.md R213). -/
def startWait (p : Point) (s : State) : State := { s with seq := { s.seq with point := p, t0 := s.now } }

/-- The loop index of ProbeLoop and FORCE_DEFAULT (44_baud_prober.md R252, R255). -/
def setIndex (i : Nat) (s : State) : State := { s with seq := { s.seq with i := i } }

/-- Enter a part of the command's pseudocode (10_state.md R47). -/
def setStage (g : Stage) (s : State) : State := { s with seq := { s.seq with stage := g } }

/-! ## The response buffer (43_link_controller.md R220) -/

/-- "RESP_STATUS.VALID <- 0; RESP_STATUS.OVF <- 0; RESP_LEN <- 0". -/
def clearResponse (s : State) : State :=
  { s with link := { s.link with resp := { len := 0, ovf := false, valid := false } } }

/-- "RESPBUF[RESP_LEN] <- RxByte(); RESP_LEN <- RESP_LEN + 1", with `rest` what the transport still holds. -/
def storeResponse (b : Byte) (rest : List Byte) (s : State) : State :=
  { s with
    rxQueue := rest,
    link := { s.link with
      respBuf := s.link.respBuf.set s.link.resp.len b,
      resp := { s.link.resp with len := s.link.resp.len + 1 } } }

/-- "RESP_STATUS.OVF <- ovf; RESP_STATUS.VALID <- 1". -/
def publishResponse (s : State) : State :=
  { s with link := { s.link with resp := { s.link.resp with ovf := s.seq.ovf, valid := true } } }

/-- Remember the drain's overflow bit until SendCommand ends. -/
def setOvf (o : Bool) (s : State) : State := { s with seq := { s.seq with ovf := o } }

/-- Write PROBE whole (44_baud_prober.md R252). -/
def setProbe (p : ProbeReg) (s : State) : State := { s with probe := p }

/-- "PROBE.VALID <- 0" at the start of ProbeLoop (44_baud_prober.md R252). -/
def invalidateProbe (s : State) : State := { s with probe := { s.probe with valid := false } }

/-- "SETSPEED <- {VALID 1, ACK ack, TARGET t}" (44_baud_prober.md R256). -/
def publishSetSpeed (s : State) : State :=
  { s with setSpeed := { valid := true, ack := s.seq.ack, target := s.seq.snap.arg } }

/-- Keep the acknowledgement of SET_SPEED_SAFELY's own SendCommand (44_baud_prober.md R256). -/
def setAck (a : Bool) (s : State) : State := { s with seq := { s.seq with ack := a } }

/-! ## Reset and the schedule -/

/-- The reset step (70_reset_and_hazards.md R340 to R346): every register and internal field takes its reset value, the
mode line is driven high and the transport reconfigured; the transport's queue (R342), the clock and what is outside the
block stay. -/
def resetStep (s : State) : State :=
  let r := State.powerOn s.cfg s.now s.draws
  { r with rxQueue := s.rxQueue, trace := r.trace ++ s.trace, rdata := s.rdata, pending := s.pending }

/-- The event of the next step: the first pending one, or any event at all (20_memory.md R70; log entry 3). -/
def nextEvent (s : State) : Event :=
  match s.pending with
  | e :: _ => e
  | []     => Config.freeEvent s.draws

/-- The state with that event taken. -/
def takeEvent (s : State) : State :=
  match s.pending with
  | _ :: rest => { s with pending := rest }
  | []        => { s with draws := s.draws + 1 }

/-! ## The environment's steps (00_scope.md R2, 20_memory.md R70) -/

/-- The transport delivers one received byte, behind those it holds: bytes are "processed strictly in arrival order"
(20_memory.md R64). -/
def deliver (b : Byte) (s : State) : State := { s with rxQueue := s.rxQueue ++ [b] }

/-- The transport's queue becomes anything (92_eei_decisions.md D40; 93_implementation_defined.md U11). -/
def requeue (q : List Byte) (s : State) : State := { s with rxQueue := q }

/-- The clock advances; it is "monotonic" and "wraps" (10_state.md R39). -/
def advanceClock (ms : Word) (s : State) : State := { s with now := s.now + ms }

end Sys2Proof.Machine
end

