-- ==== Sys2Proof/Machine/Operands.lean ====
section
/-! DEFINITION. The values the commands work on: the payload in its three formats (40_encode.md R121 to R124), decimal
rendering (00_scope.md R7, 30_encoding.md R102), the checksum functions (42_checksum.md R190 to R194), the wire frame
(40_encode.md R125) and the command texts. All are combinational: they read their arguments and write no state. -/

namespace Sys2Proof.Machine

/-- SP, the pad space (00_scope.md R9). -/
def spaceByte : Byte := 0x20

/-- MINUS (R9). -/
def minusByte : Byte := 0x2D

/-- The ASCII digit zero, on which every digit byte is built (R9). -/
def zeroByte : Byte := 0x30

/-- The ASCII code of the digit `d`. -/
def digitByte (d : Nat) : Byte := BitVec.ofNat 8 (0x30 + d)

/-- "digit(b) is 0x30 <= b <= 0x39" (R9). -/
def isDigit (b : Byte) : Bool := decide (0x30 ≤ b.toNat) && decide (b.toNat ≤ 0x39)

/-- The digits of `n`, most significant first, in front of `tail`; `fuel` bounds their number. -/
def decInto : Nat → Nat → List Byte → List Byte
  | 0,        _, tail => tail
  | fuel + 1, n, tail =>
    if n < 10 then digitByte n :: tail else decInto fuel (n / 10) (digitByte (n % 10) :: tail)

/-- Dec(n): "the decimal digits of n >= 0, most significant first, without leading zeros; Dec(0) = "0"" (00_scope.md R7). -/
def dec (n : Nat) : List Byte := decInto (n + 1) n []

/-- Dec5(c): "byte k = 0x30 + d_k" with "d_k = floor(c / 10^(4-k)) mod 10, for k = 0..4" (30_encoding.md R102). -/
def dec5 (c : Half) : List Byte := (List.range 5).map fun k => digitByte (c.toNat / 10 ^ (4 - k) % 10)

/-! ## The checksum engine (42_checksum.md) -/

/-- The sum of the byte values, as a mathematical integer. -/
def byteSum (p : List Byte) : Nat := (p.map BitVec.toNat).sum

/-- Sum16(p): "(p[0] + p[1] + ... ) mod 2^16" (R190). -/
def sum16 (p : List Byte) : Half := BitVec.ofNat 16 (byteSum p)

/-- Compute(p): "(2^16 - Sum16(p)) mod 2^16" (R191). -/
def compute (p : List Byte) : Half := BitVec.ofNat 16 (2 ^ 16 - (sum16 p).toNat)

/-- "sum over k = j..4 of (c[k] - 0x30) * 10^(4-k)" (R193). -/
def fieldValue (c : List Byte) (j : Nat) : Nat :=
  ((List.range' j (5 - j)).map fun k => ((c.getD k 0).toNat - 0x30) * 10 ^ (4 - k)).sum

/-- "number of leading bytes of c equal to SP -- 0..5" (R193). -/
def leadingSpaces (c : List Byte) : Nat := ((c.take 5).takeWhile fun b => b == spaceByte).length

/-- ParseChk(c, n); `none` is MALFORMED (R193). -/
def parseChk (c : List Byte) (n : Nat) : Option Half :=
  let j := leadingSpaces c
  if n ≠ 5 then none
  else if j = 5 then none
  else if (List.range' j (5 - j)).any (fun k => !isDigit (c.getD k 0)) then none
  else if fieldValue c j > 65535 then none
  else some (BitVec.ofNat 16 (fieldValue c j))

/-- Verify(p, v, chk), with `none` for MALFORMED: 1 when checksum mode is off, else whether the value parsed and
"(v + Sum16(p)) mod 2^16 == 0" (R194, R195; 90_conflicts.md C1). -/
def verify (p : List Byte) (v : Option Half) (chk : Bool) : Bool :=
  if chk then
    match v with
    | none   => false
    | some v => (v.toNat + (sum16 p).toNat) % 2 ^ 16 == 0
  else true

/-! ## The payload formats (40_encode.md) -/

/-- `b` repeated in front of `s` until the whole is `n` bytes, or the first `n` bytes of `s` where it is already as long. -/
def fitRight (n : Nat) (b : Byte) (s : List Byte) : List Byte :=
  if n ≤ s.length then s.take n else List.replicate (n - s.length) b ++ s

/-- FmtText: the first min(len, N_CAP) bytes of TXBUF, padded on the right with spaces (R122). -/
def fmtText (nCap len : Nat) (buf : List Byte) : List Byte :=
  let l := min len nCap
  buf.take l ++ List.replicate (nCap - l) spaceByte

/-- FmtUint: Dec(num) right-justified with '0', or its leftmost N_CAP digits (R123). -/
def fmtUint (nCap num : Nat) : List Byte := fitRight nCap zeroByte (dec num)

/-- FmtSint: as FmtUint for v >= 0; else '-' and the digits of -v, zero-padded after the sign, or the leftmost N_CAP bytes
of the two (R124). -/
def fmtSint (nCap : Nat) (v : Int) : List Byte :=
  if 0 ≤ v then fmtUint nCap v.toNat
  else
    let m := dec (-v).toNat
    let s := minusByte :: m
    if nCap ≤ s.length then s.take nCap
    else minusByte :: (List.replicate (nCap - s.length) zeroByte ++ m)

/-- FormatPayload (R121): TX_NUM is read as u32 when FMT = UINT and as s32 when FMT = SINT (10_state.md R26). -/
def formatPayload (nCap : Nat) (fmt : Fmt) (len : Half) (num : Word) (buf : List Byte) : List Byte :=
  match fmt with
  | .text => fmtText nCap len.toNat buf
  | .uint => fmtUint nCap num.toNat
  | .sint => fmtSint nCap num.toInt

/-- EncodeFrame (R125): START, the payload, in checksum mode DELIM and the five digits of its checksum, and END. -/
def encodeFrame (c : Config) (p : List Byte) (chk : Bool) : List Byte :=
  if chk then c.startMark :: (p ++ c.delim :: (dec5 (compute p) ++ [c.endMark]))
  else c.startMark :: (p ++ [c.endMark])

/-- The formatted payload of the transmit registers (40_encode.md R120). -/
def txPayload (s : State) : List Byte := formatPayload s.cfg.nCap s.ctrl.fmt s.txLen s.txNum s.txBuf

/-- The wire frame TX_SEND copies when it is accepted (43_link_controller.md R231). -/
def txFrame (s : State) : List Byte := encodeFrame s.cfg (txPayload s) (chkEnabled s)

/-! ## The command texts -/

/-- CMDBUF[0 .. CMD_LEN.LEN-1] (43_link_controller.md R234). -/
def commandText (s : State) : List Byte := s.cmdBuf.take s.cmdLen.toNat

/-- "CMD_LEN.LEN not in 1..CMD_CAP" (60_exceptions.md R301). -/
def badCommandLength (s : State) : Bool := s.cmdLen.toNat == 0 || decide (s.cfg.cmdCap < s.cmdLen.toNat)

/-- The text of the running SendCommand: the copied text for SEND_COMMAND and PROBE, CMD_DETECT in Detect (44_baud_prober.md
R254), CMD_DEFAULT in FORCE_DEFAULT (R255), CMD_SETSPEED(SPEEDS[t]) for SET_SPEED_SAFELY's own (R256). -/
def runningText (s : State) : List Byte :=
  match s.seq.op with
  | some .sendCommand  => s.seq.snap.bytes
  | some .probe        => s.seq.snap.bytes
  | some .detectSpeed  => s.cfg.cmdDetect
  | some .forceDefault => s.cfg.cmdDefault
  | some .setSpeedSafely =>
    match s.seq.stage with
    | .direct => s.cfg.cmdSetSpeed.getD s.seq.snap.arg.toNat []
    | .follow => s.cfg.cmdDetect
    | .search => s.cfg.cmdDetect
  | some .resetSettle  => []
  | some .txSend       => []
  | none               => []

/-- The index of the running Reconf: the loop index, or the target of an acknowledged SET_SPEED_SAFELY (44_baud_prober.md
R252, R255, R256). -/
def reconfIndex (s : State) : Nat :=
  match s.seq.stage with
  | .follow => s.seq.snap.arg.toNat
  | .direct => s.seq.i
  | .search => s.seq.i

/-- The response of the SendCommand that has just ended, RESPBUF[0 .. RESP_LEN-1] (43_link_controller.md R220). -/
def response (s : State) : List Byte := s.link.respBuf.take s.link.resp.len

end Sys2Proof.Machine
end

