-- ==== Sys2Proof/Machine/Flags.lean ====
section
/-! DEFINITION. The flags and result words: elapsed time and TX_READY (43_link_controller.md R210, R211), the end of a wait
(R213), the acknowledgement test (44_baud_prober.md R251), and the words the status and result registers read as
(10_state.md R21 to R35). -/

namespace Sys2Proof.Machine

/-- Elapsed(now, then) = "(now - then) mod 2^32" (R210). -/
def elapsed (now since : Word) : Word := now - since

/-- STATUS.TX_READY: "(SENDING == 0) and (Elapsed(Now(), LAST_SEND) >= TRANSFER_DELAY)" (R211). -/
def txReady (s : State) : Bool :=
  !s.link.sending && decide (s.cfg.transferDelay.toNat ≤ (elapsed s.now s.link.lastSend).toNat)

/-- The running Wait(T) can end: "Elapsed(Now(), t0) >= T" (R213). -/
def waitOver (t : Word) (s : State) : Bool := decide (t.toNat ≤ (elapsed s.now s.seq.t0).toNat)

/-- IsAck(resp, ovf): no overflow, at least two bytes, and the first two are 'O' (0x4F) and 'K' (0x4B)
(44_baud_prober.md R251). -/
def isAck (resp : List Byte) (ovf : Bool) : Bool := !ovf && resp.take 2 == [0x4F, 0x4B]

/-- FRAME_READY: "1 iff RX_STATE = 3" (R22). -/
def frameReady (s : State) : Bool := s.rx.phase == .frameComplete

/-- The code of CTRL.FMT (R21). -/
def Fmt.code : Fmt → BitVec 2
  | .text => 0
  | .uint => 1
  | .sint => 2

/-- The code of STATUS.RX_STATE (R22). -/
def RxPhase.code : RxPhase → BitVec 2
  | .idle            => 0
  | .readingPayload  => 1
  | .readingChecksum => 2
  | .frameComplete   => 3

/-- The code of CMD_STATUS.CAUSE (60_exceptions.md R301). -/
def Cause.code : Cause → BitVec 4
  | .accepted      => 0
  | .illegalOpcode => 1
  | .reservedBits  => 2
  | .busy          => 3
  | .badOperand    => 4
  | .txNotReady    => 5
  | .noFrame       => 6

/-- CTRL as it reads (R21): CHK_EN in bit 0, FMT in bits 2:1. "When N_CAP > CHK_MAX_CAP, CHK_EN reads 0". -/
def ctrlWord (s : State) : Word :=
  (0 : BitVec 29) ++ s.ctrl.fmt.code ++ BitVec.ofBool (chkEnabled s)

/-- STATUS as it reads (R22), from bit 10, CHK_AVAIL, down to bit 0, BUSY. -/
def statusWord (s : State) : Word :=
  (0 : BitVec 21) ++ BitVec.ofBool s.cfg.chkAvail ++ BitVec.ofBool s.cmdActive ++ BitVec.ofBool s.link.modeHigh
    ++ BitVec.ofBool s.rx.chkOvf ++ BitVec.ofBool s.rx.trunc ++ s.rx.phase.code ++ BitVec.ofBool (frameReady s)
    ++ BitVec.ofBool (txReady s) ++ BitVec.ofBool s.link.sending ++ BitVec.ofBool s.busy

/-- CMD_STATUS as it reads: LAST_OPC in bits 15:8, CAUSE in bits 3:0 (R23). -/
def cmdStatusWord (s : State) : Word :=
  (0 : Half) ++ s.cmdStatus.lastOpc ++ (0 : BitVec 4) ++ s.cmdStatus.cause.code

/-- VERIFY as it reads: VALUE in bits 31:16, MODE, PARSED, OK, VALID in bits 3 down to 0 (R31). -/
def verifyWord (s : State) : Word :=
  s.rx.verify.value ++ (0 : BitVec 12) ++ BitVec.ofBool s.rx.verify.mode ++ BitVec.ofBool s.rx.verify.parsed
    ++ BitVec.ofBool s.rx.verify.ok ++ BitVec.ofBool s.rx.verify.valid

/-- RESP_STATUS as it reads: VALID in bit 17, OVF in bit 16, RESP_LEN in bits 15:0 (R33). -/
def respStatusWord (s : State) : Word :=
  (0 : BitVec 14) ++ BitVec.ofBool s.link.resp.valid ++ BitVec.ofBool s.link.resp.ovf
    ++ BitVec.ofNat 16 s.link.resp.len

/-- PROBE as it reads: INDEX in bits 15:8, OVERFLOW, FOUND, VALID in bits 2 down to 0 (R34). -/
def probeWord (s : State) : Word :=
  (0 : Half) ++ s.probe.index ++ (0 : BitVec 5) ++ BitVec.ofBool s.probe.overflow ++ BitVec.ofBool s.probe.found
    ++ BitVec.ofBool s.probe.valid

/-- SETSPEED as it reads: TARGET in bits 15:8, ACK and VALID in bits 1 and 0 (R35). -/
def setSpeedWord (s : State) : Word :=
  (0 : Half) ++ s.setSpeed.target ++ (0 : BitVec 6) ++ BitVec.ofBool s.setSpeed.ack ++ BitVec.ofBool s.setSpeed.valid

end Sys2Proof.Machine
end

