-- ==== Sys2Proof/Machine/BaudProber.lean ====
section
/-! DEFINITION. The commands of 44_baud_prober.md: PROBE, DETECT_SPEED, FORCE_DEFAULT, SET_SPEED_SAFELY. Each definition is
the host step of the CMD write; the loops they start run in Machine/Sequencer.lean. -/

namespace Sys2Proof.Machine

/-- PROBE (R253): rejected BUSY, then BAD_OPERAND; else the command text is copied, BUSY and CMD_ACTIVE set. -/
def execProbe (s : State) : Host.Outcome State Fault Refusal :=
  if s.busy then reject .busy 0x11 s
  else if badCommandLength s then reject .badOperand 0x11 s
  else .next (startCommandMode .probe 0x11 .search { bytes := commandText s, arg := 0 } s)

/-- DETECT_SPEED (R254): rejected BUSY; CMD_LEN and CMD_TEXT are not used. -/
def execDetectSpeed (s : State) : Host.Outcome State Fault Refusal :=
  if s.busy then reject .busy 0x12 s
  else .next (startCommandMode .detectSpeed 0x12 .search { bytes := [], arg := 0 } s)

/-- FORCE_DEFAULT (R255): rejected BUSY. -/
def execForceDefault (s : State) : Host.Outcome State Fault Refusal :=
  if s.busy then reject .busy 0x13 s
  else .next (startCommandMode .forceDefault 0x13 .search { bytes := [], arg := 0 } s)

/-- SET_SPEED_SAFELY t (R256): rejected BUSY, then BAD_OPERAND where t >= K; else SETSPEED.VALID is cleared too. -/
def execSetSpeedSafely (t : Byte) (s : State) : Host.Outcome State Fault Refusal :=
  if s.busy then reject .busy 0x14 s
  else if s.cfg.k ≤ t.toNat then reject .badOperand 0x14 s
  else
    .next { startCommandMode .setSpeedSafely 0x14 .direct { bytes := [], arg := t } s with
      setSpeed := { s.setSpeed with valid := false } }

end Sys2Proof.Machine
end

