-- ==== Sys2Proof/Machine/Checksum.lean ====
section
/-! DEFINITION. The commands of 42_checksum.md: CHK_COMPUTE and CHK_VERIFY. Both are immediate and accepted while BUSY. -/

namespace Sys2Proof.Machine

/-- CHK_COMPUTE (R196): CHK_VALUE takes the checksum of the formatted payload, whatever CHK_EN is. -/
def execChkCompute (s : State) : Host.Outcome State Fault Refusal :=
  .next { accept 0x03 s with chkValue := compute (txPayload s) }

/-- The received payload, RXBUF[0..RX_LEN-1] (R197). -/
def rxPayload (r : Rx) : List Byte := r.buf.take r.len

/-- What CHK_VERIFY reads the received checksum field as: parsed in checksum mode, MALFORMED otherwise (R197). -/
def rxParsed (chk : Bool) (r : Rx) : Option Half := if chk then parseChk r.chk r.chkLen else none

/-- VERIFY as CHK_VERIFY leaves it (R197): VALID, the verdict, whether the field parsed, its value if so, and the mode. -/
def verdict (chk : Bool) (r : Rx) : VerifyReg :=
  { valid := true, ok := verify (rxPayload r) (rxParsed chk r) chk, parsed := (rxParsed chk r).isSome, mode := chk,
    value := (rxParsed chk r).getD 0 }

/-- CHK_VERIFY (R197): rejected NO_FRAME unless a frame is complete; else VERIFY takes the verdict. -/
def execChkVerify (s : State) : Host.Outcome State Fault Refusal :=
  if s.rx.phase ≠ .frameComplete then reject .noFrame 0x04 s
  else .next { accept 0x04 s with rx := { s.rx with verify := verdict (chkEnabled s) s.rx } }

end Sys2Proof.Machine
end

