-- ==== Sys2Proof/Machine/LinkController.lean ====
section
/-! DEFINITION. The commands of 43_link_controller.md: NOP, TX_SEND, RX_REARM, SEND_COMMAND. Each definition is the host
step of the CMD write: the acceptance checks in the order of 60_exceptions.md R301, and what the accepting step does. What a
sequencer command does afterwards is in Machine/Sequencer.lean. -/

namespace Sys2Proof.Machine

/-- NOP (R230): its only effect is CMD_STATUS, while BUSY too. -/
def execNop (s : State) : Host.Outcome State Fault Refusal := .next (accept 0x00 s)

/-- TX_SEND (R231): rejected BUSY, then TX_NOT_READY; else the frame is encoded and copied, BUSY and SENDING set. -/
def execTxSend (s : State) : Host.Outcome State Fault Refusal :=
  if s.busy then reject .busy 0x01 s
  else if !txReady s then reject .txNotReady 0x01 s
  else .next (startTxSend 0x01 (txFrame s) s)

/-- RX_REARM (R233): the return from the receive lock, accepted in any state. -/
def execRxRearm (s : State) : Host.Outcome State Fault Refusal := .next { accept 0x02 s with rx := rearm s.rx }

/-- SEND_COMMAND (R234): rejected BUSY, then BAD_OPERAND; else the command text is copied, BUSY and CMD_ACTIVE set. -/
def execSendCommand (s : State) : Host.Outcome State Fault Refusal :=
  if s.busy then reject .busy 0x10 s
  else if badCommandLength s then reject .badOperand 0x10 s
  else .next (startCommandMode .sendCommand 0x10 .direct { bytes := commandText s, arg := 0 } s)

end Sys2Proof.Machine
end

