-- ==== Sys2Proof/Machine/Dispatch.lean ====
section
/-! DEFINITION. One arm per command (30_encoding.md R91). Every command has its meaning. -/

namespace Sys2Proof.Machine

/-- The command's rule (30_encoding.md R95, last line). -/
def exec (i : Instr) (s : State) : Host.Outcome State Fault Refusal :=
  match i with
  | .nop => Sys2Proof.Machine.execNop s
  | .txSend => Sys2Proof.Machine.execTxSend s
  | .rxRearm => Sys2Proof.Machine.execRxRearm s
  | .chkCompute => Sys2Proof.Machine.execChkCompute s
  | .chkVerify => Sys2Proof.Machine.execChkVerify s
  | .sendCommand => Sys2Proof.Machine.execSendCommand s
  | .probe => Sys2Proof.Machine.execProbe s
  | .detectSpeed => Sys2Proof.Machine.execDetectSpeed s
  | .forceDefault => Sys2Proof.Machine.execForceDefault s
  | .setSpeedSafely t => Sys2Proof.Machine.execSetSpeedSafely t s

end Sys2Proof.Machine
end

