-- ==== Sys2Proof/Machine/Bus.lean ====
section
/-! DEFINITION. The host's register interface: the address map (10_state.md R20, 20_memory.md R60), what each register and
window reads as, what a write does, the issue of a command (30_encoding.md R95), and the two host accesses (20_memory.md
R61). -/

namespace Sys2Proof.Machine

/-- The host-visible registers (10_state.md R20). -/
inductive Reg where
  | ctrl | status | cmdStatus | cmd | txLen | txNum | chkValue | rxLen | rxChkLen | rxChkLo | rxChkHi | verify
  | cmdLen | respStatus | probe | setSpeed | speedIdx | speedValue | lastSend | clock
  | capMsg | capSpeeds | capCmd | capResp
  deriving DecidableEq, Repr

/-- The windows (R41 to R45). -/
inductive Window where
  | speedTable | txData | rxData | cmdText | respData
  deriving DecidableEq, Repr

/-- What an aligned offset names. -/
inductive Target where
  | reg (r : Reg)
  /-- Word `j` of a window, at window base + 4*j. -/
  | window (w : Window) (j : Nat)
  | reserved
  deriving DecidableEq, Repr

/-- The register at an offset (R20). -/
def regAt (a : Nat) : Option Reg :=
  match a with
  | 0x000 => some .ctrl
  | 0x004 => some .status
  | 0x008 => some .cmdStatus
  | 0x00C => some .cmd
  | 0x010 => some .txLen
  | 0x014 => some .txNum
  | 0x018 => some .chkValue
  | 0x01C => some .rxLen
  | 0x020 => some .rxChkLen
  | 0x024 => some .rxChkLo
  | 0x028 => some .rxChkHi
  | 0x02C => some .verify
  | 0x030 => some .cmdLen
  | 0x034 => some .respStatus
  | 0x038 => some .probe
  | 0x03C => some .setSpeed
  | 0x040 => some .speedIdx
  | 0x044 => some .speedValue
  | 0x048 => some .lastSend
  | 0x04C => some .clock
  | 0x050 => some .capMsg
  | 0x054 => some .capSpeeds
  | 0x058 => some .capCmd
  | 0x05C => some .capResp
  | _     => none

/-- The regions of the address space (20_memory.md R60). -/
def targetAt (a : Nat) : Target :=
  if a < 0x0060 then
    match regAt a with
    | some r => .reg r
    | none   => .reserved
  else if a < 0x0800 then .reserved
  else if a < 0x0C00 then .window .speedTable ((a - 0x0800) / 4)
  else if a < 0x1000 then .reserved
  else if a < 0x2000 then .window .txData ((a - 0x1000) / 4)
  else if a < 0x3000 then .window .rxData ((a - 0x2000) / 4)
  else if a < 0x4000 then .window .cmdText ((a - 0x3000) / 4)
  else if a < 0x5000 then .window .respData ((a - 0x4000) / 4)
  else .reserved

/-- What a register reads as (10_state.md R21 to R40); CMD is write-only and reads 0 (R24). -/
def readReg (s : State) : Reg → Word
  | .ctrl       => ctrlWord s
  | .status     => statusWord s
  | .cmdStatus  => cmdStatusWord s
  | .cmd        => 0
  | .txLen      => s.txLen.setWidth 32
  | .txNum      => s.txNum
  | .chkValue   => s.chkValue.setWidth 32
  | .rxLen      => (BitVec.ofNat 16 s.rx.len).setWidth 32
  | .rxChkLen   => (BitVec.ofNat 3 s.rx.chkLen).setWidth 32
  | .rxChkLo    => windowWord s.rx.chk s.rx.chkLen 0
  | .rxChkHi    => windowWord s.rx.chk (min s.rx.chkLen Config.chkDigits) 1
  | .verify     => verifyWord s
  | .cmdLen     => s.cmdLen.setWidth 32
  | .respStatus => respStatusWord s
  | .probe      => probeWord s
  | .setSpeed   => setSpeedWord s
  | .speedIdx   => (BitVec.ofNat 8 s.link.speedIdx).setWidth 32
  | .speedValue => speedAt s.cfg s.link.speedIdx
  | .lastSend   => s.link.lastSend
  | .clock      => s.now
  | .capMsg     => BitVec.ofNat 32 s.cfg.nCap
  | .capSpeeds  => BitVec.ofNat 32 s.cfg.k
  | .capCmd     => BitVec.ofNat 32 s.cfg.cmdCap
  | .capResp    => BitVec.ofNat 32 s.cfg.respCap

/-- What word `j` of a window reads as, after the window's mask (R41 to R45). -/
def readWindow (s : State) (w : Window) (j : Nat) : Word :=
  match w with
  | .speedTable => if j < s.cfg.k then speedAt s.cfg j else 0
  | .txData     => windowWord s.txBuf s.cfg.nCap j
  | .rxData     => windowWord s.rx.buf (min s.rx.len s.cfg.nCap) j
  | .cmdText    => windowWord s.cmdBuf s.cfg.cmdCap j
  | .respData   => windowWord s.link.respBuf (min s.link.resp.len s.cfg.respCap) j

/-- The value of an aligned read; a reserved range reads 0 (20_memory.md R65). -/
def readOffset (s : State) (a : Offset) : Word :=
  match targetAt a.toNat with
  | .reg r      => readReg s r
  | .window w j => readWindow s w j
  | .reserved   => 0

/-- CTRL.FMT after a write of bits[2:1]: "Writing FMT = 3 leaves FMT unchanged" (R21). -/
def fmtWrite (old : Fmt) (v : Word) : Fmt :=
  match (v.extractLsb' 1 2).toNat with
  | 0 => .text
  | 1 => .uint
  | 2 => .sint
  | _ => old

/-- A write to CTRL (R21): CHK_EN stays 0 where checksum mode is unavailable. -/
def writeCtrl (v : Word) (s : State) : State :=
  { s with ctrl := { chkEn := v.getLsbD 0 && s.cfg.chkAvail, fmt := fmtWrite s.ctrl.fmt v } }

/-- DecodeCmd(w) (30_encoding.md R95): "Every word either runs exactly one command or is rejected with exactly one cause". -/
def issueCommand (w : Word) (s : State) : Host.Outcome State Fault Refusal :=
  match decode w with
  | .illegalOpcode => reject .illegalOpcode (opcOf w) s
  | .reservedBits  => reject .reservedBits (opcOf w) s
  | .run i         => exec i s

/-- A write to a register. A write to an RO or C register is ignored (20_memory.md R65); TX_LEN and CMD_LEN take bits[15:0]
(10_state.md R25, R32). -/
def writeReg (r : Reg) (v : Word) (s : State) : Host.Outcome State Fault Refusal :=
  match r with
  | .ctrl   => .next (writeCtrl v s)
  | .cmd    => issueCommand v s
  | .txLen  => .next { s with txLen := v.setWidth 16 }
  | .txNum  => .next { s with txNum := v }
  | .cmdLen => .next { s with cmdLen := v.setWidth 16 }
  | .status | .cmdStatus | .chkValue | .rxLen | .rxChkLen | .rxChkLo | .rxChkHi | .verify | .respStatus | .probe
  | .setSpeed | .speedIdx | .speedValue | .lastSend | .clock | .capMsg | .capSpeeds | .capCmd | .capResp => .next s

/-- A write to word `j` of a window: TX_DATA and CMD_TEXT store their lanes, the others ignore it (R41 to R45). -/
def writeWindow (w : Window) (j : Nat) (v : Word) (s : State) : State :=
  match w with
  | .txData  => { s with txBuf := putWord s.cfg.nCap s.txBuf j v }
  | .cmdText => { s with cmdBuf := putWord s.cfg.cmdCap s.cmdBuf j v }
  | .speedTable | .rxData | .respData => s

/-- The effect of an aligned write; a write to a reserved range is ignored (20_memory.md R65). -/
def writeOffset (a : Offset) (v : Word) (s : State) : Host.Outcome State Fault Refusal :=
  match targetAt a.toNat with
  | .reg r      => writeReg r v s
  | .window w j => .next (writeWindow w j v s)
  | .reserved   => .next s

end Sys2Proof.Machine
end

