-- ==== Sys2Proof/Machine/Decoder.lean ====
section
/-! DEFINITION. The frame decoder, an agent of its own that no command starts (41_decode.md). One step takes one received
byte through the transition table of R153. -/

namespace Sys2Proof.Machine

/-- The class of a received byte (30_encoding.md R103). -/
inductive ByteClass where
  | start | delim | stop | other
  deriving DecidableEq, Repr

/-- Classify(b, chk): START, then END, then DELIM in checksum mode, then any other (30_encoding.md R103). -/
def classify (c : Config) (chk : Bool) (b : Byte) : ByteClass :=
  if b = c.startMark then .start
  else if b = c.endMark then .stop
  else if chk = true ∧ b = c.delim then .delim
  else .other

/-- StartFrame (R152): the buffers' bytes are not cleared. -/
def startFrame (r : Rx) : Rx :=
  { r with phase := .readingPayload, len := 0, chkLen := 0, trunc := false, chkOvf := false }

/-- ReadingPayload, CL_OTHER: store the byte while capacity remains (R161); else set RX_TRUNC, and without checksum mode
complete the frame (R162, R163). -/
def takePayloadByte (nCap : Nat) (chk : Bool) (b : Byte) (r : Rx) : Rx :=
  if r.len < nCap then { r with buf := r.buf.set r.len b, len := r.len + 1 }
  else if chk then { r with trunc := true }
  else { r with trunc := true, phase := .frameComplete }

/-- ReadingChecksum, CL_OTHER: store the byte while fewer than five are held (R167); else set RX_CHK_OVF and complete the
frame (R168). -/
def takeChecksumByte (b : Byte) (r : Rx) : Rx :=
  if r.chkLen < Config.chkDigits then { r with chk := r.chk.set r.chkLen b, chkLen := r.chkLen + 1 }
  else { r with chkOvf := true, phase := .frameComplete }

/-- DecodeStep(b, chk), the whole transition table (R153). RX_STATE is tested before the byte's class, so the receive lock
outranks every class (60_exceptions.md R309 (d)). -/
def decodeByte (c : Config) (chk : Bool) (b : Byte) (r : Rx) : Rx :=
  match r.phase with
  | .idle =>
    match classify c chk b with
    | .start => startFrame r
    | .delim => r
    | .stop  => r
    | .other => r
  | .readingPayload =>
    match classify c chk b with
    | .start => startFrame r
    | .delim => { r with phase := .readingChecksum, chkLen := 0 }
    | .stop  => { r with phase := .frameComplete }
    | .other => takePayloadByte c.nCap chk b r
  | .readingChecksum =>
    match classify c chk b with
    | .start => startFrame r
    | .delim => r
    | .stop  => { r with phase := .frameComplete }
    | .other => takeChecksumByte b r
  | .frameComplete => r

/-- A decoder step is enabled "exactly when STATUS.CMD_ACTIVE = 0 and RxAvail() is true" (R150). -/
def decoderEnabled (s : State) : Bool := !s.cmdActive && !s.rxQueue.isEmpty

/-- The decoder step (R150): the oldest received byte leaves the transport and goes through the table under the CHK_EN of
this step. Where no step is enabled nothing happens. -/
def decoderStep (s : State) : State :=
  if s.cmdActive then s
  else
    match s.rxQueue with
    | []        => s
    | b :: rest => { s with rxQueue := rest, rx := decodeByte s.cfg (chkEnabled s) b s.rx }

end Sys2Proof.Machine
end

