-- ==== Sys2Proof/Machine/Sequencer.lean ====
section
/-! DEFINITION. The sequencer (43_link_controller.md R213, R214, R220; 44_baud_prober.md R250 to R256). A sequencer step
runs the pseudocode from the primitive the sequencer is held at to the next one that holds it; a TxByte is passed by the
transport's acceptance, a Wait by a sequencer step at which its condition holds. The definitions below stand in reverse:
each names what runs after it before it is used. -/

namespace Sys2Proof.Machine

/-- Wait(T), then `after`: t0 <- Now() in the step that reaches the wait, which ends in that very step where the condition
already holds (R213; Wait(0) ends at once, 92_eei_decisions.md D50). -/
def beginWait (p : Point) (t : Word) (after : State → State) (s : State) : State :=
  let w := startWait p s
  if waitOver t w then after w else w

/-- A held Wait(T): "the sequencer has no step while this is false" (R213). -/
def resumeWait (t : Word) (after : State → State) (s : State) : State := if waitOver t s then after s else s

/-! ## SendCommand (43_link_controller.md R220), up to its drain -/

/-- After the last text byte: Wait(CMD_TIME), then the head of the drain loop, each of whose iterations is a sequencer step
of its own (log entry 8). -/
def enterCmdTime (s : State) : State := beginWait .cmdTime s.cfg.cmdTime (holdAt .drain) s

/-- "for k in 0 .. len(text)-1: TxByte(text[k])". An empty text has no k, so nothing is sent (log entry 5). -/
def enterText (s : State) : State := if (runningText s).isEmpty then enterCmdTime s else startText s

/-- The start of SendCommand: the response is cleared, the mode line goes low, Wait(SET_LOW_TIME). -/
def beginSendCommand (s : State) : State :=
  beginWait .setLow s.cfg.setLowTime enterText (setMode false (clearResponse s))

/-! ## Reconf (44_baud_prober.md R250) and the ends of the prober's commands -/

/-- SET_SPEED_SAFELY's last step: SETSPEED, then CMD_ACTIVE and BUSY (R256). -/
def endSetSpeed (s : State) : State := endCommandMode (publishSetSpeed s)

/-- After Reconf: SET_SPEED_SAFELY's Reconf(t) is its last act (R256); in a loop over the table SendCommand follows (R252,
R255). -/
def afterReconf (s : State) : State :=
  match s.seq.stage with
  | .follow => endSetSpeed s
  | .direct => beginSendCommand s
  | .search => beginSendCommand s

/-- "Reconfigure(SPEEDS[i]); SPEED_IDX <- i; Wait(T_RECONF_POST)" (R250). -/
def switchSpeed (s : State) : State :=
  beginWait .reconfPost s.cfg.tReconfPost afterReconf (reconfigureTo (reconfIndex s) s)

/-- Reconf(i): "Wait(T_RECONF_PRE)" first (R250). -/
def beginReconf (s : State) : State := beginWait .reconfPre s.cfg.tReconfPre switchSpeed s

/-- The start of ProbeLoop: "PROBE.VALID <- 0", and its loop at index 0 (R252). -/
def beginProbeLoop (s : State) : State := beginReconf (setIndex 0 (setStage .search (invalidateProbe s)))

/-- Detect's diagnostic event, from PROBE as ProbeLoop left it (R254). -/
def diagOf (p : ProbeReg) : Diag :=
  if p.found then .found p.index.toNat
  else if p.overflow then .overflow p.index.toNat
  else .notFound

/-- What follows ProbeLoop in the command that ran it: PROBE ends (R253); DETECT_SPEED emits its event and ends (R254);
SET_SPEED_SAFELY's fallback emits it, writes SETSPEED and ends (R256). -/
def afterProbeLoop (s : State) : State :=
  match s.seq.op with
  | some .detectSpeed    => endCommandMode (emit (diagOf s.probe) s)
  | some .setSpeedSafely => endSetSpeed (emit (diagOf s.probe) s)
  | some .probe          => endCommandMode s
  | some .forceDefault   => endCommandMode s
  | some .sendCommand    => endCommandMode s
  | some .resetSettle    => endCommandMode s
  | some .txSend         => endCommandMode s
  | none                 => endCommandMode s

/-- ProbeLoop after the SendCommand at index i: overflow first, then the acknowledgement, then the next index or exhaustion
(R252). -/
def probeResult (s : State) : State :=
  if s.link.resp.ovf then
    afterProbeLoop
      (setProbe { valid := true, found := false, overflow := true, index := BitVec.ofNat 8 s.seq.i } s)
  else if isAck (response s) false then
    afterProbeLoop
      (setProbe { valid := true, found := true, overflow := false, index := BitVec.ofNat 8 s.seq.i } s)
  else if s.seq.i + 1 < s.cfg.k then beginReconf (setIndex (s.seq.i + 1) s)
  else
    afterProbeLoop
      (setProbe { valid := true, found := false, overflow := false, index := BitVec.ofNat 8 s.cfg.k } s)

/-- FORCE_DEFAULT after the SendCommand at index i, whose result is ignored: the next index, or the end (R255). -/
def forceDefaultNext (s : State) : State :=
  if s.seq.i + 1 < s.cfg.k then beginReconf (setIndex (s.seq.i + 1) s) else endCommandMode s

/-- SET_SPEED_SAFELY after its own SendCommand: "if ack == 1: Reconf(t)", "else: Detect()" (R256). -/
def setSpeedNext (s : State) : State :=
  let ack := isAck (response s) s.link.resp.ovf
  let r := setAck ack s
  if ack then beginReconf (setStage .follow r) else beginProbeLoop r

/-- What follows a SendCommand in the command that ran it. -/
def afterSendCommand (s : State) : State :=
  match s.seq.op with
  | some .sendCommand  => endCommandMode s
  | some .probe        => probeResult s
  | some .detectSpeed  => probeResult s
  | some .forceDefault => forceDefaultNext s
  | some .setSpeedSafely =>
    match s.seq.stage with
    | .direct => setSpeedNext s
    | .follow => probeResult s
    | .search => probeResult s
  | some .resetSettle  => endCommandMode s
  | some .txSend       => endCommandMode s
  | none               => endCommandMode s

/-! ## SendCommand from its drain on (43_link_controller.md R220) -/

/-- SendCommand's return: "RESP_STATUS.OVF <- ovf; RESP_STATUS.VALID <- 1". -/
def returnSendCommand (s : State) : State := afterSendCommand (publishResponse s)

/-- The exit of the drain: the mode line goes high, Wait(SET_HIGH_TIME). -/
def endDrain (o : Bool) (s : State) : State :=
  beginWait .setHigh s.cfg.setHighTime returnSendCommand (setMode true (setOvf o s))

/-- One iteration of the drain: no byte available ends it, a full buffer with a byte available ends it with overflow, else
the byte is stored. -/
def drainStep (s : State) : State :=
  match s.rxQueue with
  | []        => endDrain false s
  | b :: rest => if s.link.resp.len = s.cfg.respCap then endDrain true s else storeResponse b rest s

/-! ## The two kinds of sequencer step -/

/-- The first sequencer step of a command-mode command. -/
def startCommand (s : State) : State :=
  match s.seq.op with
  | some .sendCommand    => beginSendCommand s
  | some .setSpeedSafely => beginSendCommand s
  | some .probe          => beginProbeLoop s
  | some .detectSpeed    => beginProbeLoop s
  | some .forceDefault   => beginReconf (setIndex 0 s)
  | some .resetSettle    => s
  | some .txSend         => s
  | none                 => s

/-- The running command takes a step from the primitive it is held at; at a TxByte it has none of its own
(43_link_controller.md R214). -/
def sequencerAdvance (s : State) : State :=
  match s.seq.point with
  | .start      => startCommand s
  | .settle     => resumeWait s.cfg.setHighTime endSettle s
  | .txFrame    => s
  | .reconfPre  => resumeWait s.cfg.tReconfPre switchSpeed s
  | .reconfPost => resumeWait s.cfg.tReconfPost afterReconf s
  | .setLow     => resumeWait s.cfg.setLowTime enterText s
  | .txText     => s
  | .cmdTime    => resumeWait s.cfg.cmdTime (holdAt .drain) s
  | .drain      => drainStep s
  | .setHigh    => resumeWait s.cfg.setHighTime returnSendCommand s

/-- A sequencer step; with no command running there is none. -/
def sequencerStep (s : State) : State :=
  match s.seq.op with
  | none   => s
  | some _ => sequencerAdvance s

/-- After the transport accepted a byte of TX_SEND's frame (43_link_controller.md R231). -/
def afterFrameByte (s : State) : State :=
  if s.seq.k + 1 < s.seq.snap.bytes.length then nextByte s else endTxSend s

/-- After the transport accepted a byte of the command text (43_link_controller.md R220). -/
def afterTextByte (s : State) : State :=
  if s.seq.k + 1 < (runningText s).length then nextByte s else enterCmdTime s

/-- The byte the sequencer offers the transport, if it is held at a TxByte (43_link_controller.md R214). -/
def offeredByte (s : State) : Option Byte :=
  match s.seq.op with
  | none   => none
  | some _ =>
    match s.seq.point with
    | .txFrame => s.seq.snap.bytes[s.seq.k]?
    | .txText  => (runningText s)[s.seq.k]?
    | .start | .settle | .reconfPre | .reconfPost | .setLow | .cmdTime | .drain | .setHigh => none

/-- The transport accepts the offered byte, and the sequencer goes on in that step (43_link_controller.md R214, R231). -/
def transportAccept (s : State) : State :=
  match offeredByte s with
  | none   => s
  | some b => if s.seq.point = .txFrame then afterFrameByte (sendByte b s) else afterTextByte (sendByte b s)

end Sys2Proof.Machine
end

