-- ==== Sys2Proof/WellFormed.lean ====
section
/-! DEFINITION. What counts as well-formed: a configuration (00_scope.md R6), a host access (20_memory.md R61) and a
command's operand (30_encoding.md R92). Each check is a Bool of its own. A command whose operand is not legal still decodes:
its acceptance check rejects it (60_exceptions.md R301), so only the first two checks make the model refuse. -/

namespace Sys2Proof

namespace Config

/-- "START, END and DELIM are pairwise distinct" (R6). -/
def markersDistinct (c : Config) : Bool :=
  c.startMark != c.endMark && c.startMark != c.delim && c.endMark != c.delim

/-- A byte the encoder itself emits: a digit, the pad space or the minus sign (R6). -/
def encoderByte (b : Byte) : Bool :=
  (decide (0x30 ≤ b.toNat) && decide (b.toNat ≤ 0x39)) || b == 0x20 || b == 0x2D

/-- "none of START, END and DELIM is in {0x30..0x39, 0x20, 0x2D}" (R6). -/
def markersFree (c : Config) : Bool :=
  !encoderByte c.startMark && !encoderByte c.endMark && !encoderByte c.delim

/-- "1 <= N_CAP <= 4096" and the same for CMD_CAP and RESP_CAP (R6). -/
def capacitiesInRange (c : Config) : Bool :=
  [c.nCap, c.cmdCap, c.respCap].all fun n => decide (1 ≤ n) && decide (n ≤ 4096)

/-- "1 <= K <= 255" (R6). -/
def speedCountInRange (c : Config) : Bool := decide (1 ≤ c.k) && decide (c.k ≤ 255)

/-- Every entry exceeds the one before it, and the first exceeds `low`. -/
def ascendingAbove (low : Nat) : List Word → Bool
  | []      => true
  | v :: vs => decide (low < v.toNat) && ascendingAbove v.toNat vs

/-- "SPEEDS[i] >= 1 for every i, and SPEEDS[i] < SPEEDS[i+1]" (R6). -/
def speedsAscending (c : Config) : Bool := ascendingAbove 0 c.speeds

/-- "INIT_SPEED_IDX < K" (R6). -/
def initSpeedInTable (c : Config) : Bool := decide (c.initSpeedIdx < c.k)

/-- The configuration is well-formed (R6). R6 says nothing of the block's own command texts, so any text is admitted, the
empty one too (log entry 5). -/
def wf (c : Config) : Bool :=
  c.markersDistinct && c.markersFree && c.capacitiesInRange && c.speedCountInRange && c.speedsAscending
    && c.initSpeedInTable

end Config

/-- A host access is 32 bits wide and aligned: size 4, and "addr[1:0] = 0" (20_memory.md R61). -/
def accessOk (size : Nat) (addr : Offset) : Bool := size == 4 && addr.toNat % 4 == 0

/-- The command's operand is legal on a block with `k` candidate speeds: "SET_SPEED_SAFELY requires t < K" and "No other
command has a field in the command word" (30_encoding.md R92). -/
def Instr.operandOk (k : Nat) : Instr → Bool
  | .setSpeedSafely t => decide (t.toNat < k)
  | .nop | .txSend | .rxRearm | .chkCompute | .chkVerify
  | .sendCommand | .probe | .detectSpeed | .forceDefault => true

end Sys2Proof
end

