-- ==== Sys2Proof/Machine/Agents.lean ====
section
/-! DEFINITION. The two host accesses with the interface's refusal (20_memory.md R61), and the step of each agent
(20_memory.md R70, 00_scope.md R2). -/

namespace Sys2Proof.Machine

/-- MemRead(addr, size): the value returned reaches the host, and nothing else changes (20_memory.md R61, R66). -/
def hostRead (size : Nat) (a : Offset) (s : State) : Host.Outcome State Fault Refusal :=
  if accessOk size a then .next { s with rdata := readOffset s a } else .refused .badAccess

/-- MemWrite(addr, size, v) (20_memory.md R61). -/
def hostWrite (size : Nat) (a : Offset) (v : Word) (s : State) : Host.Outcome State Fault Refusal :=
  if accessOk size a then writeOffset a v s else .refused .badAccess

/-- One atomic step of the named agent (20_memory.md R70). A step of an agent that has none enabled changes nothing
(log entry 7). -/
def perform (e : Event) (s : State) : Host.Outcome State Fault Refusal :=
  match e with
  | .hostRead size a     => hostRead size a s
  | .hostWrite size a v  => hostWrite size a v s
  | .decoderStep         => .next (decoderStep s)
  | .sequencerStep       => .next (sequencerStep s)
  | .transportAccept     => .next (transportAccept s)
  | .transportDeliver b  => .next (deliver b s)
  | .transportRequeue q  => .next (requeue q s)
  | .clockAdvance ms     => .next (advanceClock ms s)
  | .reset               => .next (resetStep s)

end Sys2Proof.Machine
end

