-- ==== Sys2Proof/Machine/Step.lean ====
section
/-! DEFINITION. One step of an execution: the next atomic step of the interleaving (20_memory.md R70), on a block whose
configuration the model admits (00_scope.md R6). -/

namespace Sys2Proof.Machine

/-- The next atomic step. "A model admits no other configuration" than a well-formed one (R6). -/
def step (s : State) : Host.Outcome State Fault Refusal :=
  if s.cfg.wf then perform (nextEvent s) (takeEvent s) else .refused .illFormedConfig

/-- `s` with the write of a command word to CMD (offset 0x00C) as its very next event. The block fetches nothing: a command
reaches it only as a host write (20_memory.md R76, 30_encoding.md R90). Log entry 1. -/
def State.withFetchWord (s : State) (nbits w : Nat) : State :=
  { s with pending := .hostWrite 4 0x00C (BitVec.ofNat 32 (w % 2 ^ nbits)) :: s.pending }

end Sys2Proof.Machine
end

