-- ==== Sys2Proof/Safety.lean ====
section
/-! DEFINITION. What counts as a safe run, in the terms the claims use: the invariant every reachable state has (10_state.md
R49, with what it rests on), the environment assumption on the clock (92_eei_decisions.md D47), and the obligations the spec
puts on host software (70_reset_and_hazards.md). -/

namespace Sys2Proof.Machine

/-- The commands that set CMD_ACTIVE (43_link_controller.md R235). -/
def Op.commandMode : Op → Bool
  | .sendCommand | .probe | .detectSpeed | .forceDefault | .setSpeedSafely => true
  | .resetSettle | .txSend => false

/-- The sequencer is inside a SendCommand, between its SetMode(LOW) and its SetMode(HIGH) (43_link_controller.md R220). -/
def Point.lineLow : Point → Bool
  | .setLow | .txText | .cmdTime | .drain => true
  | .start | .settle | .txFrame | .reconfPre | .reconfPost | .setHigh => false

/-- The sequencer is inside a SendCommand, from its start to its return (R220). -/
def Point.inSendCommand : Point → Bool
  | .setLow | .txText | .cmdTime | .drain | .setHigh => true
  | .start | .settle | .txFrame | .reconfPre | .reconfPost => false

/-- A command-mode command is running. -/
def inCommandMode (s : State) : Bool := s.seq.op.any Op.commandMode

/-- The decoder state is consistent (10_state.md R49). -/
structure Rx.Inv (nCap : Nat) (r : Rx) : Prop where
  /-- "RX_STATE = 0 implies RX_LEN = 0, RX_CHK_LEN = 0, RX_TRUNC = 0 and RX_CHK_OVF = 0". -/
  idle        : r.phase = .idle → r.len = 0 ∧ r.chkLen = 0 ∧ r.trunc = false ∧ r.chkOvf = false
  /-- "RX_LEN <= N_CAP". -/
  len_le      : r.len ≤ nCap
  /-- "RX_CHK_LEN <= 5". -/
  chkLen_le   : r.chkLen ≤ 5
  /-- Checksum bytes are held only from ReadingChecksum on. -/
  field_phase : 0 < r.chkLen → r.phase = .readingChecksum ∨ r.phase = .frameComplete
  /-- RX_TRUNC says the payload buffer is full (41_decode.md R162, R163). -/
  trunc_full  : r.trunc = true → r.len = nCap
  /-- "RX_CHK_OVF = 1 implies RX_STATE = 3 and RX_CHK_LEN = 5". -/
  ovf_locked  : r.chkOvf = true → r.phase = .frameComplete ∧ r.chkLen = 5
  /-- VERIFY.VALID says CHK_VERIFY "has run on the current completed frame" (10_state.md R31). -/
  verify_cur  : r.verify.valid = true → r.phase = .frameComplete

/-- The sequencer's position fits the running command (10_state.md R47). -/
structure SeqInv (s : State) : Prop where
  /-- The reset settle phase is its one wait (70_reset_and_hazards.md R341). -/
  settle      : s.seq.op = some .resetSettle → s.seq.point = .settle
  /-- TX_SEND is its one loop of TxBytes (43_link_controller.md R231). -/
  txSend      : s.seq.op = some .txSend → s.seq.point = .txFrame ∧ s.seq.k < s.seq.snap.bytes.length
  /-- A command-mode command is at neither. -/
  commandMode : inCommandMode s = true → s.seq.point ≠ .settle ∧ s.seq.point ≠ .txFrame
  /-- SEND_COMMAND and PROBE copied a text of 1 to CMD_CAP bytes (60_exceptions.md R301). -/
  ownText     : (s.seq.op = some .sendCommand ∨ s.seq.op = some .probe) →
    1 ≤ s.seq.snap.bytes.length ∧ s.seq.snap.bytes.length ≤ s.cfg.cmdCap
  /-- A text byte is being offered only within the text. -/
  textByte    : inCommandMode s = true → s.seq.point = .txText → s.seq.k < (runningText s).length
  /-- SEND_COMMAND sends one text of its own (43_link_controller.md R234). -/
  sendCommand : s.seq.op = some .sendCommand → s.seq.stage = .direct
  /-- PROBE, DETECT_SPEED and FORCE_DEFAULT loop over the table (44_baud_prober.md R252, R255). -/
  loops       : (s.seq.op = some .probe ∨ s.seq.op = some .detectSpeed ∨ s.seq.op = some .forceDefault) →
    s.seq.stage = .search
  /-- Only a Reconf follows an acknowledged SET_SPEED_SAFELY (R256). -/
  follow      : inCommandMode s = true → s.seq.stage = .follow →
    s.seq.point = .reconfPre ∨ s.seq.point = .reconfPost
  /-- A command's own SendCommand has no Reconf in front of it. -/
  direct      : inCommandMode s = true → s.seq.stage = .direct →
    s.seq.point ≠ .reconfPre ∧ s.seq.point ≠ .reconfPost
  /-- The loop index stays inside the table. -/
  index_lt    : inCommandMode s = true → s.seq.stage = .search → s.seq.point ≠ .start → s.seq.i < s.cfg.k
  /-- The target of a running SET_SPEED_SAFELY is a table index (30_encoding.md R92). -/
  target_lt   : s.seq.op = some .setSpeedSafely → s.seq.snap.arg.toNat < s.cfg.k
  /-- SET_SPEED_SAFELY starts with its own SendCommand. -/
  setStart    : s.seq.op = some .setSpeedSafely → s.seq.point = .start → s.seq.stage = .direct
  /-- Past its own SendCommand, SET_SPEED_SAFELY follows the module where `ack` is 1 and falls back where it is 0 (R256). -/
  ack         : s.seq.op = some .setSpeedSafely → s.seq.stage ≠ .direct → s.seq.ack = (s.seq.stage == .follow)

/-- The invariant of every reachable state: 10_state.md R49 with what it rests on. -/
structure State.Inv (s : State) : Prop where
  /-- The configuration is well-formed (00_scope.md R6). -/
  config    : s.cfg.wf = true
  /-- Every buffer holds as many bytes as its capacity. -/
  memory    : Memory.wf s = true
  /-- "CHK_EN reads 0 whatever is written" where checksum mode is unavailable (R21). -/
  chkEn     : s.ctrl.chkEn = true → s.cfg.chkAvail = true
  /-- The decoder state is consistent. -/
  rx        : s.rx.Inv s.cfg.nCap
  /-- BUSY is 1 exactly while a sequencer command or the reset settle phase runs (R22). -/
  busy      : s.busy = s.seq.op.isSome
  /-- "SENDING = 1 implies BUSY = 1": SENDING is 1 exactly while TX_SEND runs. -/
  sending   : s.link.sending = (s.seq.op == some .txSend)
  /-- "CMD_ACTIVE = 1 implies BUSY = 1": CMD_ACTIVE is 1 exactly while a command-mode command runs (R235). -/
  cmdActive : s.cmdActive = inCommandMode s
  /-- "MODE_HIGH = 0 implies CMD_ACTIVE = 1": the line is low exactly between SendCommand's SetMode(LOW) and SetMode(HIGH). -/
  modeHigh  : s.link.modeHigh = !(inCommandMode s && s.seq.point.lineLow)
  /-- "SPEED_IDX < K". -/
  speedIdx  : s.link.speedIdx < s.cfg.k
  /-- "RESP_LEN <= RESP_CAP". -/
  respLen   : s.link.resp.len ≤ s.cfg.respCap
  /-- RESP_STATUS.VALID and OVF are 0 while a SendCommand runs (43_link_controller.md R220). -/
  respRun   : inCommandMode s = true → s.seq.point.inSendCommand = true →
    s.link.resp.valid = false ∧ s.link.resp.ovf = false
  /-- "FOUND = 1 and OVERFLOW = 1 never hold together" (44_baud_prober.md R257), and INDEX is at most K (R252). -/
  probe     : (s.probe.found && s.probe.overflow) = false ∧ s.probe.index.toNat ≤ s.cfg.k
  /-- SETSPEED.VALID is 0 while SET_SPEED_SAFELY runs (R35). -/
  setSpeed  : s.seq.op = some .setSpeedSafely → s.setSpeed.valid = false
  /-- The sequencer's position fits the running command. -/
  seq       : SeqInv s

/-- The environment assumption D47 for one step: a clock step carries neither the interval since the last send nor, while a
command runs, the interval since its wait began to 2^32 ms. Log entry 9. -/
def ClockSampled (s : State) (e : Event) : Prop :=
  ∀ ms, e = .clockAdvance ms →
    (elapsed s.now s.link.lastSend).toNat + ms.toNat < 2 ^ 32 ∧
    (s.seq.op ≠ none → (elapsed s.now s.seq.t0).toNat + ms.toNat < 2 ^ 32)

/-- A payload that holds no reserved byte: "no START and no END, and no DELIM when CHK_EN = 1" (41_decode.md R173;
70_reset_and_hazards.md R356). -/
def Unreserved (c : Config) (chk : Bool) (p : List Byte) : Prop :=
  c.startMark ∉ p ∧ c.endMark ∉ p ∧ (chk = true → c.delim ∉ p)

/-- The event is a host write of some word to CMD (30_encoding.md R90). -/
def IsCmdWrite (e : Event) : Prop := ∃ w, e = .hostWrite 4 0x00C w

/-- The level the block last drove on the mode line, from its port actions, newest first. -/
def lastMode : List PortAct → Option Bool
  | []                 => none
  | .setMode h :: _    => some h
  | .txByte _ :: l     => lastMode l
  | .reconfigure _ :: l => lastMode l
  | .emit _ :: l       => lastMode l

/-- The speed the block last asked the transport for, from its port actions, newest first. -/
def lastSpeed : List PortAct → Option Word
  | []                 => none
  | .reconfigure v :: _ => some v
  | .setMode _ :: l    => lastSpeed l
  | .txByte _ :: l     => lastSpeed l
  | .emit _ :: l       => lastSpeed l

/-- The status bits say what the ports were last told: MODE_HIGH is the level of the mode line (10_state.md R22), and
SPEED_IDX the index of the speed "the transport was last opened or reconfigured at" (R36). -/
structure PortsMatch (s : State) : Prop where
  mode  : lastMode s.trace = some s.link.modeHigh
  speed : lastSpeed s.trace = some (speedAt s.cfg s.link.speedIdx)

/-- The bytes the block has put on the wire, in the order the transport accepted them. -/
def wireBytes (l : List PortAct) : List Byte :=
  l.reverse.filterMap fun a => match a with
    | .txByte b      => some b
    | .setMode _     => none
    | .reconfigure _ => none
    | .emit _        => none

/-- A schedule of one whole SEND_COMMAND, from its CMD write on: each Wait takes exactly its time (43_link_controller.md R213),
the transport takes one step for each byte of the text, and each drain iteration is a step (R220). -/
def sendCommandSchedule (s : State) : List Event :=
  [Event.hostWrite 4 0x00C 0x00000010, Event.sequencerStep, Event.clockAdvance s.cfg.setLowTime, Event.sequencerStep] ++
  List.replicate s.cmdLen.toNat Event.transportAccept ++
  [Event.clockAdvance s.cfg.cmdTime, Event.sequencerStep] ++
  List.replicate (min s.rxQueue.length s.cfg.respCap + 1) Event.sequencerStep ++
  [Event.clockAdvance s.cfg.setHighTime, Event.sequencerStep]

/-- A Wait of length `d` takes exactly its time: one of 0 was passed in the step that reached it, any other by the clock step
that makes its condition hold and a sequencer step (43_link_controller.md R213). -/
def afterWait (d : Word) (s : State) : State := if d = 0 then s else sequencerStep (advanceClock d s)

/-- Reconf's two waits take exactly their times, from the state that reached the first of them (44_baud_prober.md R250). -/
def afterReconfWaits (s : State) : State := afterWait s.cfg.tReconfPost (afterWait s.cfg.tReconfPre s)

/-- A SendCommand of `n` text bytes runs from its first step to its return: each Wait takes exactly its time, the transport
accepts each text byte, and each drain iteration is a step (43_link_controller.md R220). -/
def afterSendCommandRun (n : Nat) (s : State) : State :=
  afterWait s.cfg.setHighTime
    (sequencerStep^[min s.rxQueue.length s.cfg.respCap + 1]
      (afterWait s.cfg.cmdTime (transportAccept^[n] (afterWait s.cfg.setLowTime s))))

/-- What a step from `s` to `t` makes of the record `g` of CHK_EN "at the decoder step that entered ReadingChecksum"
(10_state.md R49): entering it records CHK_EN. The record is no state of the block, so it stands beside State. -/
def entryMode (s t : State) (g : Bool) : Bool :=
  if t.rx.phase = .readingChecksum ∧ s.rx.phase ≠ .readingChecksum then chkEnabled s else g

/-- In ReadingChecksum, and wherever a checksum byte is held, the record says that CHK_EN was 1 (R49). -/
def EnteredInChecksumMode (s : State) (g : Bool) : Prop :=
  s.rx.phase = .readingChecksum ∨ 0 < s.rx.chkLen → g = true

/-- The length of the Wait the sequencer is held at, if it is held at one (43_link_controller.md R213). -/
def waitLength (s : State) : Option Word :=
  match s.seq.point with
  | .settle     => some s.cfg.setHighTime
  | .reconfPre  => some s.cfg.tReconfPre
  | .reconfPost => some s.cfg.tReconfPost
  | .setLow     => some s.cfg.setLowTime
  | .cmdTime    => some s.cfg.cmdTime
  | .setHigh    => some s.cfg.setHighTime
  | .start | .txFrame | .txText | .drain => none

end Sys2Proof.Machine
end

