-- ==== Sys2Proof/Certificates/Slice0/Obligations.lean ====
section
/-! DEFINITION. The statements for the provers, each with the rule of the spec it formalises. `exec`, `step` and the agents'
steps are the machine's own; a statement about a free value holds for every value of it. -/

open Sys2Proof Sys2Proof.Machine

/-! ## The command word (30_encoding.md) -/

/-- Headline: decoding and encoding agree in both directions, for every word and every command with every operand: no bit of
an encoding is dropped, and each word has one meaning (R90, R91, R95). -/
def Obligations.DecodeEncodeAgree : Prop :=
  ∀ (w : Word) (i : Instr), decode w = .run i ↔ w = encode i

/-- The two rejections by name, on every word (R93). -/
def Obligations.IllegalWordsRejected : Prop :=
  ∀ w : Word,
    (decode w = .illegalOpcode ↔
      opcOf w ∉ ([0x00, 0x01, 0x02, 0x03, 0x04, 0x10, 0x11, 0x12, 0x13, 0x14] : List Byte)) ∧
    (decode w = .reservedBits ↔
      opcOf w ∈ ([0x00, 0x01, 0x02, 0x03, 0x04, 0x10, 0x11, 0x12, 0x13, 0x14] : List Byte) ∧
      (rsvOf w ≠ 0 ∨ (opcOf w ≠ 0x14 ∧ argOf w ≠ 0)))

/-- A few words as the opcode map writes them out: "0x000000OO" and "0x0000tt14" (R91). -/
def Obligations.SampleWordsDecode : Prop :=
  decode 0x00000000 = .run .nop ∧ decode 0x00000001 = .run .txSend ∧ decode 0x00000002 = .run .rxRearm ∧
  decode 0x00000004 = .run .chkVerify ∧ decode 0x00000010 = .run .sendCommand ∧ decode 0x00000011 = .run .probe ∧
  decode 0x00000714 = .run (.setSpeedSafely 7) ∧ decode 0x00000005 = .illegalOpcode ∧
  decode 0x00000101 = .reservedBits ∧ decode 0x00010014 = .reservedBits

/-! ## Issuing a command (60_exceptions.md) -/

/-- "Every word either runs exactly one command or is rejected with exactly one cause" (R95): issuing any word in any state
has its step, which leaves its opcode in LAST_OPC. -/
def Obligations.EveryCommandWordHasItsStep : Prop :=
  ∀ (w : Word) (s : State), ∃ t, issueCommand w s = .next t ∧ t.cmdStatus.lastOpc = opcOf w

/-- The cause codes and the order of the checks, on every word in every state, as CMD_STATUS bits 3:0 read them (R301). -/
def Obligations.FirstFailingCheckGivesTheCause : Prop :=
  ∀ (w : Word) (s t : State), issueCommand w s = .next t →
    (readOffset t 0x008).extractLsb' 0 4 =
      if opcOf w ∉ ([0x00, 0x01, 0x02, 0x03, 0x04, 0x10, 0x11, 0x12, 0x13, 0x14] : List Byte) then 1
      else if rsvOf w ≠ 0 ∨ (opcOf w ≠ 0x14 ∧ argOf w ≠ 0) then 2
      else if opcOf w ∈ ([0x01, 0x10, 0x11, 0x12, 0x13, 0x14] : List Byte) ∧ s.busy = true then 3
      else if (opcOf w ∈ ([0x10, 0x11] : List Byte) ∧ (s.cmdLen.toNat = 0 ∨ s.cfg.cmdCap < s.cmdLen.toNat)) ∨
          (opcOf w = 0x14 ∧ s.cfg.k ≤ (argOf w).toNat) then 4
      else if opcOf w = 0x01 ∧ txReady s = false then 5
      else if opcOf w = 0x04 ∧ s.rx.phase ≠ .frameComplete then 6
      else 0

/-- A rejected command write changes CMD_STATUS and nothing else (R300): for every word and state. -/
def Obligations.RejectionChangesOnlyStatus : Prop :=
  ∀ (w : Word) (s t : State), issueCommand w s = .next t → t.cmdStatus.cause ≠ .accepted →
    t = { s with cmdStatus := { cause := t.cmdStatus.cause, lastOpc := opcOf w } }

/-- The frame of every command's host step, forms that reject among them: no command stores to a byte of any buffer, and
each register outside the ones its rule names is as before. -/
def Obligations.CommandsLeaveTheRest : Prop :=
  ∀ (i : Instr) (s t : State), exec i s = .next t →
    (∀ b n, t.byteAt b n = s.byteAt b n) ∧
    t.cfg = s.cfg ∧ t.ctrl = s.ctrl ∧ t.txLen = s.txLen ∧ t.txNum = s.txNum ∧ t.cmdLen = s.cmdLen ∧ t.probe = s.probe ∧
    t.now = s.now ∧ t.rxQueue = s.rxQueue ∧ t.trace = s.trace ∧ t.rdata = s.rdata ∧ t.pending = s.pending ∧
    t.draws = s.draws ∧
    (i ≠ .chkCompute → t.chkValue = s.chkValue) ∧
    (i ≠ .rxRearm → { t.rx with verify := s.rx.verify } = s.rx) ∧
    (i ≠ .rxRearm → i ≠ .chkVerify → t.rx.verify = s.rx.verify) ∧
    { t.link with sending := s.link.sending } = s.link ∧ (i ≠ .txSend → t.link.sending = s.link.sending) ∧
    { t.setSpeed with valid := s.setSpeed.valid } = s.setSpeed ∧
    ((∀ u, i ≠ .setSpeedSafely u) → t.setSpeed.valid = s.setSpeed.valid) ∧
    (i ∈ [.nop, .rxRearm, .chkCompute, .chkVerify] → t.busy = s.busy ∧ t.cmdActive = s.cmdActive ∧ t.seq = s.seq) ∧
    (i = .txSend → t.cmdActive = s.cmdActive)

/-! ## The immediate commands -/

/-- NOP (R230): accepted in any state, and its only effect is CMD_STATUS; a NOP word with ARG or RSV nonzero is rejected
RESERVED_BITS. -/
def Obligations.NopWritesOnlyItsStatus : Prop :=
  ∀ s : State,
    exec .nop s = .next { s with cmdStatus := { cause := .accepted, lastOpc := 0x00 } } ∧
    ∀ w : Word, opcOf w = 0x00 → w ≠ 0 →
      issueCommand w s = .next { s with cmdStatus := { cause := .reservedBits, lastOpc := 0x00 } }

/-- RX_REARM (R233): from any state the decoder is idle with every count and flag clear and VERIFY 0, the buffers' bytes
stay, nothing else but CMD_STATUS changes, and repeating it changes nothing more. -/
def Obligations.RxRearmClearsTheFrame : Prop :=
  ∀ s : State, ∃ t, exec .rxRearm s = .next t ∧
    t = { s with
      cmdStatus := { cause := .accepted, lastOpc := 0x02 },
      rx := { phase := .idle, len := 0, chkLen := 0, buf := s.rx.buf, chk := s.rx.chk, trunc := false, chkOvf := false,
              verify := { valid := false, ok := false, parsed := false, mode := false, value := 0 } } } ∧
    readOffset t 0x02C = 0 ∧ exec .rxRearm t = .next t

/-- CHK_COMPUTE (R196): from any state CHK_VALUE takes Compute of the formatted payload, whatever CHK_EN is, and that is the
value whose digits TX_SEND puts on the wire in checksum mode. -/
def Obligations.ChkComputeWritesTheChecksum : Prop :=
  ∀ (s : State) (b : Bool),
    exec .chkCompute s = .next { s with
      cmdStatus := { cause := .accepted, lastOpc := 0x03 },
      chkValue := compute (formatPayload s.cfg.nCap s.ctrl.fmt s.txLen s.txNum s.txBuf) } ∧
    ∃ t u, exec .chkCompute s = .next t ∧ exec .chkCompute { s with ctrl := { s.ctrl with chkEn := b } } = .next u ∧
      u.chkValue = t.chkValue ∧
      (chkEnabled s = true →
        txFrame s = s.cfg.startMark :: (txPayload s ++ s.cfg.delim :: (dec5 t.chkValue ++ [s.cfg.endMark])))

/-- CHK_VERIFY (R197): on a complete frame the VERIFY register takes the verdict on the received payload and field; with no
complete frame the command is rejected NO_FRAME. -/
def Obligations.ChkVerifyJudgesTheFrame : Prop :=
  ∀ s : State,
    (s.rx.phase ≠ .frameComplete →
      exec .chkVerify s = .next { s with cmdStatus := { cause := .noFrame, lastOpc := 0x04 } }) ∧
    (s.rx.phase = .frameComplete →
      ∃ t, exec .chkVerify s = .next t ∧
        t = { s with
          cmdStatus := { cause := .accepted, lastOpc := 0x04 }, rx := { s.rx with verify := t.rx.verify } } ∧
        t.rx.verify.valid = true ∧ t.rx.verify.mode = chkEnabled s ∧
        (chkEnabled s = false →
          t.rx.verify.ok = true ∧ t.rx.verify.parsed = false ∧ t.rx.verify.value = 0) ∧
        (chkEnabled s = true →
          match parseChk s.rx.chk s.rx.chkLen with
          | none   => t.rx.verify.ok = false ∧ t.rx.verify.parsed = false ∧ t.rx.verify.value = 0
          | some v => t.rx.verify.parsed = true ∧ t.rx.verify.value = v ∧
              (t.rx.verify.ok = true ↔ (v.toNat + ((s.rx.buf.take s.rx.len).map BitVec.toNat).sum) % 65536 = 0)))

/-! ## The sequencer commands: acceptance, and the end-to-end runs -/

/-- TX_SEND (R231), the whole of it: the two rejections in their order; on acceptance, after one transport acceptance for
each byte of the frame, the wire has exactly the frame's bytes in order, SENDING and BUSY are 0 again and LAST_SEND is the
clock; before the last of them BUSY and SENDING are 1. The decoder and the mode line are not touched. Three readings of the
model's stand in it, all DEDUCED: the first byte is offered from the acceptance on (log entry 15), each acceptance and the
offer of the next byte are one step (log entry 14), and SENDING rises in the host step (log entry 19). -/
def Obligations.TxSendWritesItsFrame : Prop :=
  ∀ s : State,
    (s.busy = true → exec .txSend s = .next { s with cmdStatus := { cause := .busy, lastOpc := 0x01 } }) ∧
    (s.busy = false → txReady s = false →
      exec .txSend s = .next { s with cmdStatus := { cause := .txNotReady, lastOpc := 0x01 } }) ∧
    (s.busy = false → txReady s = true →
      ∃ t, exec .txSend s = .next t ∧ t.cmdStatus = { cause := .accepted, lastOpc := 0x01 } ∧
        (∀ n < (txFrame s).length,
          (transportAccept^[n] t).busy = true ∧ (transportAccept^[n] t).link.sending = true ∧
          (transportAccept^[n] t).link.lastSend = s.link.lastSend ∧
          offeredByte (transportAccept^[n] t) = (txFrame s)[n]?) ∧
        (transportAccept^[(txFrame s).length] t).trace = ((txFrame s).map PortAct.txByte).reverse ++ s.trace ∧
        (transportAccept^[(txFrame s).length] t).busy = false ∧
        (transportAccept^[(txFrame s).length] t).link = { s.link with sending := false, lastSend := s.now } ∧
        (transportAccept^[(txFrame s).length] t).seq.op = none ∧
        (transportAccept^[(txFrame s).length] t).rx = s.rx)

/-- The acceptance of the five command-mode commands: for every state with BUSY 0 and, where the command has an operand, a
legal one, BUSY and CMD_ACTIVE are set, the inputs are copied, and nothing else changes but CMD_STATUS and, for
SET_SPEED_SAFELY, SETSPEED.VALID (R234, R253 to R256). -/
def Obligations.CommandModeCommandsAccepted : Prop :=
  ∀ s : State, s.busy = false →
    (1 ≤ s.cmdLen.toNat → s.cmdLen.toNat ≤ s.cfg.cmdCap →
      (∃ t, exec .sendCommand s = .next t ∧
        t = { s with
          cmdStatus := { cause := .accepted, lastOpc := 0x10 }, busy := true, cmdActive := true, seq := t.seq } ∧
        t.seq.op = some .sendCommand ∧ t.seq.point = .start ∧ t.seq.stage = .direct ∧
        t.seq.snap.bytes = s.cmdBuf.take s.cmdLen.toNat) ∧
      (∃ t, exec .probe s = .next t ∧
        t = { s with
          cmdStatus := { cause := .accepted, lastOpc := 0x11 }, busy := true, cmdActive := true, seq := t.seq } ∧
        t.seq.op = some .probe ∧ t.seq.point = .start ∧ t.seq.snap.bytes = s.cmdBuf.take s.cmdLen.toNat)) ∧
    (∃ t, exec .detectSpeed s = .next t ∧
      t = { s with
        cmdStatus := { cause := .accepted, lastOpc := 0x12 }, busy := true, cmdActive := true, seq := t.seq } ∧
      t.seq.op = some .detectSpeed ∧ t.seq.point = .start) ∧
    (∃ t, exec .forceDefault s = .next t ∧
      t = { s with
        cmdStatus := { cause := .accepted, lastOpc := 0x13 }, busy := true, cmdActive := true, seq := t.seq } ∧
      t.seq.op = some .forceDefault ∧ t.seq.point = .start ∧ t.seq.stage = .search) ∧
    (∀ u : Byte, u.toNat < s.cfg.k →
      ∃ t, exec (.setSpeedSafely u) s = .next t ∧
        t = { s with
          cmdStatus := { cause := .accepted, lastOpc := 0x14 }, busy := true, cmdActive := true,
          setSpeed := { s.setSpeed with valid := false }, seq := t.seq } ∧
        t.seq.op = some .setSpeedSafely ∧ t.seq.point = .start ∧ t.seq.stage = .direct ∧ t.seq.snap.arg = u)

/-- SEND_COMMAND from its CMD write to its end, as steps of the machine (R220, R234). The schedule gives each wait
exactly its time and the response is whatever the transport holds: the mode line goes low, the text goes out byte by byte,
the line goes high, the response is at most RESP_CAP bytes, OVF says whether more were there, the rest stays in the
transport, the decoder has seen nothing, and BUSY is 0 again. The schedule is the model's own (log entry 1, DESIGN CHOICE),
and its steps are those of log entries 8, 14 and 15 (DEDUCED). -/
def Obligations.SendCommandRunsToItsResult : Prop :=
  ∀ s : State, s.cfg.wf = true → Memory.wf s = true → s.busy = false →
    1 ≤ s.cmdLen.toNat → s.cmdLen.toNat ≤ s.cfg.cmdCap →
    s.pending = sendCommandSchedule s →
    ∃ t, Host.Core.run core s.pending.length s = .next t ∧
      t.busy = false ∧ t.cmdActive = false ∧ t.link.modeHigh = true ∧
      t.link.resp = { len := min s.rxQueue.length s.cfg.respCap, ovf := decide (s.cfg.respCap < s.rxQueue.length),
                      valid := true } ∧
      response t = s.rxQueue.take s.cfg.respCap ∧ t.rxQueue = s.rxQueue.drop s.cfg.respCap ∧
      t.trace = .setMode true :: ((s.cmdBuf.take s.cmdLen.toNat).map PortAct.txByte).reverse ++
        .setMode false :: s.trace ∧
      t.rx = s.rx ∧ t.link.speedIdx = s.link.speedIdx

/-- CMD_ACTIVE has one meaning (R235): a host step that sets it is a CMD write that also sets BUSY; while it is 1, short of a
reset, it falls only in a sequencer step, the one in which BUSY falls too; and no byte received meanwhile reaches the
decoder. -/
def Obligations.CmdActiveAndBusyFallTogether : Prop :=
  ∀ s t : State, s.Inv → step s = .next t → nextEvent s ≠ .reset →
    (s.cmdActive = false → t.cmdActive = true → IsCmdWrite (nextEvent s) ∧ s.busy = false ∧ t.busy = true) ∧
    (s.cmdActive = true →
      t.cmdActive = t.busy ∧ (t.cmdActive = false → nextEvent s = .sequencerStep) ∧
      (¬ IsCmdWrite (nextEvent s) → t.rx = s.rx))

/-! ## The prober (44_baud_prober.md) -/

/-- ProbeLoop (R252), in PROBE, DETECT_SPEED and SET_SPEED_SAFELY's fallback. The first step of PROBE and DETECT_SPEED clears
PROBE.VALID and begins Reconf(0), which ends, its two waits passed, with the transport at SPEEDS[0] and SendCommand begun.
When the SendCommand at index i returns: overflow first, then the acknowledgement, else Reconf(i+1) and the next SendCommand
or, at the table's end, exhaustion with INDEX = K. -/
def Obligations.ProbeLoopPrecedence : Prop :=
  (∀ s : State, s.seq.op = some .probe ∨ s.seq.op = some .detectSpeed → s.seq.point = .start →
    (sequencerStep s).probe = { s.probe with valid := false } ∧
    afterReconfWaits (sequencerStep s) = beginSendCommand { s with
      probe := { s.probe with valid := false }, now := s.now + s.cfg.tReconfPre + s.cfg.tReconfPost,
      trace := .reconfigure (s.cfg.speeds.getD 0 0) :: s.trace, link := { s.link with speedIdx := 0 },
      seq := { s.seq with stage := .search, i := 0, point := .reconfPost, t0 := s.now + s.cfg.tReconfPre } }) ∧
  (∀ s : State, s.seq.op = some .probe ∨ s.seq.op = some .detectSpeed ∨ s.seq.op = some .setSpeedSafely →
    s.seq.stage = .search → s.seq.i < s.cfg.k → s.cfg.k ≤ 255 →
    let i : Byte := BitVec.ofNat 8 s.seq.i
    (s.seq.ovf = true →
      (returnSendCommand s).probe = { valid := true, found := false, overflow := true, index := i } ∧
      (returnSendCommand s).busy = false ∧ (returnSendCommand s).cmdActive = false) ∧
    (s.seq.ovf = false → (response s).take 2 = [0x4F, 0x4B] →
      (returnSendCommand s).probe = { valid := true, found := true, overflow := false, index := i } ∧
      (returnSendCommand s).busy = false ∧ (returnSendCommand s).cmdActive = false) ∧
    (s.seq.ovf = false → (response s).take 2 ≠ [0x4F, 0x4B] → s.seq.i + 1 < s.cfg.k →
      afterReconfWaits (returnSendCommand s) = beginSendCommand { s with
        now := s.now + s.cfg.tReconfPre + s.cfg.tReconfPost,
        trace := .reconfigure (s.cfg.speeds.getD (s.seq.i + 1) 0) :: s.trace,
        link := { s.link with speedIdx := s.seq.i + 1, resp := { s.link.resp with ovf := s.seq.ovf, valid := true } },
        seq := { s.seq with i := s.seq.i + 1, point := .reconfPost, t0 := s.now + s.cfg.tReconfPre } }) ∧
    (s.seq.ovf = false → (response s).take 2 ≠ [0x4F, 0x4B] → s.seq.i + 1 = s.cfg.k →
      (returnSendCommand s).probe =
        { valid := true, found := false, overflow := false, index := BitVec.ofNat 8 s.cfg.k } ∧
      (returnSendCommand s).busy = false ∧ (returnSendCommand s).cmdActive = false))

/-- DETECT_SPEED and SET_SPEED_SAFELY's fallback report the outcome of their probe as one diagnostic event, in the step that
ends them (R254, R256), and PROBE reports none (R253). The fallback leaves SETSPEED = (VALID, ACK 0, t) in that step. -/
def Obligations.DetectSpeedEmitsItsOutcome : Prop :=
  ∀ s : State, s.seq.stage = .search → s.seq.i < s.cfg.k → s.cfg.k ≤ 255 →
    (s.seq.op = some .detectSpeed ∨ s.seq.op = some .setSpeedSafely →
      (s.seq.ovf = true → (returnSendCommand s).trace = .emit (.overflow s.seq.i) :: s.trace) ∧
      (s.seq.ovf = false → (response s).take 2 = [0x4F, 0x4B] →
        (returnSendCommand s).trace = .emit (.found s.seq.i) :: s.trace) ∧
      (s.seq.ovf = false → (response s).take 2 ≠ [0x4F, 0x4B] → s.seq.i + 1 = s.cfg.k →
        (returnSendCommand s).trace = .emit .notFound :: s.trace)) ∧
    (s.seq.ovf = true ∨ (response s).take 2 = [0x4F, 0x4B] ∨ s.seq.i + 1 = s.cfg.k →
      (s.seq.op = some .probe → (returnSendCommand s).trace = s.trace) ∧
      (s.seq.op = some .probe ∨ s.seq.op = some .detectSpeed → (returnSendCommand s).setSpeed = s.setSpeed) ∧
      (s.seq.op = some .setSpeedSafely → s.Inv →
        (returnSendCommand s).setSpeed = { valid := true, ack := false, target := s.seq.snap.arg } ∧
        (returnSendCommand s).busy = false ∧ (returnSendCommand s).cmdActive = false))

/-- FORCE_DEFAULT tries every speed (R255): its first step begins Reconf(0), each SendCommand that returns is followed,
whatever the response, by Reconf and SendCommand at the next index, and the one at the table's end by the end of the command;
it writes neither PROBE nor SETSPEED. -/
def Obligations.ForceDefaultTriesEverySpeed : Prop :=
  ∀ s : State, s.seq.op = some .forceDefault → s.seq.stage = .search →
    (s.seq.point = .start →
      afterReconfWaits (sequencerStep s) = beginSendCommand { s with
        now := s.now + s.cfg.tReconfPre + s.cfg.tReconfPost,
        trace := .reconfigure (s.cfg.speeds.getD 0 0) :: s.trace, link := { s.link with speedIdx := 0 },
        seq := { s.seq with i := 0, point := .reconfPost, t0 := s.now + s.cfg.tReconfPre } }) ∧
    (s.seq.i + 1 < s.cfg.k →
      afterReconfWaits (returnSendCommand s) = beginSendCommand { s with
        now := s.now + s.cfg.tReconfPre + s.cfg.tReconfPost,
        trace := .reconfigure (s.cfg.speeds.getD (s.seq.i + 1) 0) :: s.trace,
        link := { s.link with speedIdx := s.seq.i + 1, resp := { s.link.resp with ovf := s.seq.ovf, valid := true } },
        seq := { s.seq with i := s.seq.i + 1, point := .reconfPost, t0 := s.now + s.cfg.tReconfPre } }) ∧
    (s.cfg.k ≤ s.seq.i + 1 →
      returnSendCommand s = { s with
        busy := false, cmdActive := false, seq := { s.seq with op := none },
        link := { s.link with resp := { s.link.resp with ovf := s.seq.ovf, valid := true } } }) ∧
    (returnSendCommand s).probe = s.probe ∧ (returnSendCommand s).setSpeed = s.setSpeed

/-- SET_SPEED_SAFELY (R256): its first step begins its own SendCommand, at the speed the transport has. Acknowledged, it goes
on to Reconf(t), and ends, the two waits passed, at speed t with SETSPEED = (VALID, ACK 1, t) and BUSY 0. Not acknowledged, or
overflowed, it falls back to ProbeLoop: PROBE.VALID is cleared, and Reconf(0) and the SendCommand at index 0 follow with
`ack` 0, which it keeps to its end. -/
def Obligations.SetSpeedFollowsOrFallsBack : Prop :=
  ∀ s : State, s.seq.op = some .setSpeedSafely →
    (s.seq.point = .start → sequencerStep s = beginSendCommand s) ∧
    (s.seq.stage = .direct → s.seq.ovf = false → (response s).take 2 = [0x4F, 0x4B] →
      let t := s.seq.snap.arg.toNat
      afterReconfWaits (returnSendCommand s) = { s with
        busy := false, cmdActive := false, setSpeed := { valid := true, ack := true, target := s.seq.snap.arg },
        now := s.now + s.cfg.tReconfPre + s.cfg.tReconfPost,
        trace := .reconfigure (s.cfg.speeds.getD t 0) :: s.trace,
        link := { s.link with speedIdx := t, resp := { s.link.resp with ovf := s.seq.ovf, valid := true } },
        seq := { s.seq with
          op := none, stage := .follow, ack := true, point := .reconfPost, t0 := s.now + s.cfg.tReconfPre } }) ∧
    (s.seq.stage = .direct → s.seq.ovf = true ∨ (response s).take 2 ≠ [0x4F, 0x4B] →
      (returnSendCommand s).probe = { s.probe with valid := false } ∧
      afterReconfWaits (returnSendCommand s) = beginSendCommand { s with
        probe := { s.probe with valid := false }, now := s.now + s.cfg.tReconfPre + s.cfg.tReconfPost,
        trace := .reconfigure (s.cfg.speeds.getD 0 0) :: s.trace,
        link := { s.link with speedIdx := 0, resp := { s.link.resp with ovf := s.seq.ovf, valid := true } },
        seq := { s.seq with
          stage := .search, i := 0, ack := false, point := .reconfPost, t0 := s.now + s.cfg.tReconfPre } }) ∧
    (s.Inv → s.seq.stage = .search → s.seq.ack = false)

/-! ## Time and the waits (43_link_controller.md) -/

/-- TX_READY is the source's isReadyToSend(), with elapsed time by subtraction modulo 2^32 (R210, R211). -/
def Obligations.TxReadyIsSpacingElapsed : Prop :=
  (∀ now since : Word, ((elapsed now since).toNat : Int) = ((now.toNat : Int) - since.toNat) % 2 ^ 32) ∧
  ∀ s : State,
    txReady s = true ↔
      s.link.sending = false ∧ (s.cfg.transferDelay.toNat : Int) ≤ ((s.now.toNat : Int) - s.link.lastSend.toNat) % 2 ^ 32

/-- Under the clock assumption D47, TX_READY cannot fall but by a TX_SEND (70_reset_and_hazards.md R352): the only steps that
take it from 1 to 0 are the write of the TX_SEND word to CMD and a reset. -/
def Obligations.TxReadyFallsOnlyByASend : Prop :=
  ∀ s t : State, s.Inv → ClockSampled s (nextEvent s) → step s = .next t → txReady s = true → txReady t = false →
    nextEvent s = .hostWrite 4 0x00C 0x00000001 ∨ nextEvent s = .reset

/-- The settle times are enforced by the block (70_reset_and_hazards.md R350): while the sequencer is held at a wait whose
time has not passed, no step but a reset moves it on, BUSY stays 1, and a sequencer step changes nothing at all. The spec
says that there is no such sequencer step (R213); that the model's changes nothing is log entry 7 (DEDUCED). -/
def Obligations.WaitsCannotBeShortened : Prop :=
  ∀ (s t : State) (d : Word), s.Inv → s.seq.op ≠ none → waitLength s = some d →
    (elapsed s.now s.seq.t0).toNat < d.toNat → step s = .next t → nextEvent s ≠ .reset →
    t.seq = s.seq ∧ t.busy = true ∧ sequencerStep s = s

/-- The inputs of a running command are copied when it is accepted: a host write to anything but CMD leaves the sequencer
and the byte it offers as they are (20_memory.md R76). -/
def Obligations.HostWritesChangeNoRunningCommand : Prop :=
  ∀ (s t : State) (n : Nat) (a : Offset) (v : Word), a ≠ 0x00C → hostWrite n a v s = .next t →
    t.seq = s.seq ∧ offeredByte t = offeredByte s ∧ t.link = s.link ∧ t.busy = s.busy ∧ t.cmdActive = s.cmdActive

/-! ## The decoder (41_decode.md) -/

/-- A decoder step (R150): it is enabled exactly when CMD_ACTIVE is 0 and a byte is there; then it removes the oldest byte
and runs DecodeStep under this step's CHK_EN, and changes nothing else. Otherwise there is no such step, and that the model's
changes nothing is log entry 7 (DEDUCED). -/
def Obligations.DecoderStepTakesOneByte : Prop :=
  ∀ s : State,
    (s.cmdActive = true ∨ s.rxQueue = [] → decoderStep s = s) ∧
    (∀ b q, s.cmdActive = false → s.rxQueue = b :: q →
      decoderStep s = { s with rxQueue := q, rx := decodeByte s.cfg (chkEnabled s) b s.rx })

/-- The cells of Idle and ReadingPayload (R154 to R163). -/
def Obligations.DecoderCellsBeforeChecksum : Prop :=
  ∀ (c : Config) (chk : Bool) (b : Byte) (r : Rx), c.wf = true →
    (r.phase = .idle → b ≠ c.startMark → decodeByte c chk b r = r) ∧
    ((r.phase = .idle ∨ r.phase = .readingPayload) → b = c.startMark →
      decodeByte c chk b r =
        { r with phase := .readingPayload, len := 0, chkLen := 0, trunc := false, chkOvf := false }) ∧
    (r.phase = .readingPayload → b = c.delim → chk = true →
      decodeByte c chk b r = { r with phase := .readingChecksum, chkLen := 0 }) ∧
    (r.phase = .readingPayload → b = c.endMark → decodeByte c chk b r = { r with phase := .frameComplete }) ∧
    (r.phase = .readingPayload → b ≠ c.startMark → b ≠ c.endMark → (chk = true → b ≠ c.delim) →
      (r.len < c.nCap → decodeByte c chk b r = { r with buf := r.buf.set r.len b, len := r.len + 1 }) ∧
      (c.nCap ≤ r.len → chk = false → decodeByte c chk b r = { r with trunc := true, phase := .frameComplete }) ∧
      (c.nCap ≤ r.len → chk = true → decodeByte c chk b r = { r with trunc := true }))

/-- The cells of ReadingChecksum (R164 to R168). -/
def Obligations.DecoderCellsOfChecksum : Prop :=
  ∀ (c : Config) (chk : Bool) (b : Byte) (r : Rx), c.wf = true → r.phase = .readingChecksum →
    (b = c.startMark →
      decodeByte c chk b r =
        { r with phase := .readingPayload, len := 0, chkLen := 0, trunc := false, chkOvf := false }) ∧
    (b = c.delim → chk = true → decodeByte c chk b r = r) ∧
    (b = c.endMark → decodeByte c chk b r = { r with phase := .frameComplete }) ∧
    (b ≠ c.startMark → b ≠ c.endMark → (chk = true → b ≠ c.delim) →
      (r.chkLen < 5 → decodeByte c chk b r = { r with chk := r.chk.set r.chkLen b, chkLen := r.chkLen + 1 }) ∧
      (5 ≤ r.chkLen → decodeByte c chk b r = { r with chkOvf := true, phase := .frameComplete }))

/-- The receive lock (R170), as a rule of the whole machine: in FrameComplete every byte is dropped, START included, and only
RX_REARM or reset leaves the state. -/
def Obligations.ReceiveLockHolds : Prop :=
  (∀ (c : Config) (chk : Bool) (b : Byte) (r : Rx), r.phase = .frameComplete → decodeByte c chk b r = r) ∧
  (∀ s t : State, step s = .next t → s.rx.phase = .frameComplete → t.rx.phase ≠ .frameComplete →
    nextEvent s = .reset ∨ nextEvent s = .hostWrite 4 0x00C 0x00000002)

/-- Self-synchronisation (R172). From any state outside the receive lock a START byte leads to ReadingPayload with
every count at 0, and from then on everything the host can see of the frame depends only on the bytes that follow, not on
what the decoder held before. -/
def Obligations.StartByteResynchronises : Prop :=
  ∀ (c : Config) (chk : Bool) (r u : Rx) (bs : List Byte), c.wf = true →
    r.phase ≠ .frameComplete → u.phase ≠ .frameComplete →
    r.buf.length = c.nCap → u.buf.length = c.nCap → r.chk.length = 5 → u.chk.length = 5 →
    let run := fun (x : Rx) => (c.startMark :: bs).foldl (fun y b => decodeByte c chk b y) x
    (decodeByte c chk c.startMark r).phase = .readingPayload ∧ (decodeByte c chk c.startMark r).len = 0 ∧
    (decodeByte c chk c.startMark r).chkLen = 0 ∧
    (run r).phase = (run u).phase ∧ (run r).len = (run u).len ∧ (run r).chkLen = (run u).chkLen ∧
    (run r).trunc = (run u).trunc ∧ (run r).chkOvf = (run u).chkOvf ∧
    (run r).buf.take (run r).len = (run u).buf.take (run u).len ∧
    (run r).chk.take (run r).chkLen = (run u).chk.take (run u).chkLen

/-- Headline: round trip (R173). A decoder that starts in Idle and takes the bytes of EncodeFrame(P, chk), for a payload P of
N_CAP bytes with no reserved byte, completes with the payload P and clear flags, in checksum mode with the five digits of
its checksum, which verify. -/
def Obligations.EncodedFrameRoundTrips : Prop :=
  ∀ (c : Config) (chk : Bool) (p : List Byte) (r : Rx), c.wf = true → p.length = c.nCap → Unreserved c chk p →
    r.phase = .idle → r.buf.length = c.nCap → r.chk.length = 5 →
    let u := (encodeFrame c p chk).foldl (fun x b => decodeByte c chk b x) r
    u.phase = .frameComplete ∧ u.len = c.nCap ∧ u.buf = p ∧ u.trunc = false ∧ u.chkOvf = false ∧
    (chk = true → u.chkLen = 5 ∧ u.chk = dec5 (compute p)) ∧
    verify (u.buf.take u.len) (if chk then parseChk u.chk u.chkLen else none) chk = true

/-! ## The encoder and the checksum engine (40_encode.md, 42_checksum.md) -/

/-- FormatPayload "always returns exactly N_CAP bytes" (40_encode.md R121), and the frame is N_CAP + 2 bytes, or N_CAP + 8 in
checksum mode (30_encoding.md R101). -/
def Obligations.PayloadAndFrameLengths : Prop :=
  ∀ s : State, s.txBuf.length = s.cfg.nCap →
    (formatPayload s.cfg.nCap s.ctrl.fmt s.txLen s.txNum s.txBuf).length = s.cfg.nCap ∧
    (txFrame s).length = s.cfg.nCap + (if chkEnabled s then 8 else 2)

/-- FmtText, byte by byte (R122): N_CAP bytes, TXBUF's byte below min(len, N_CAP), a space from there to N_CAP. -/
def Obligations.TextPayloadBytes : Prop :=
  ∀ (nCap len i : Nat) (buf : List Byte), buf.length = nCap → i < nCap →
    (fmtText nCap len buf).length = nCap ∧
    (fmtText nCap len buf)[i]? = if i < min len nCap then buf[i]? else some 0x20

/-- Dec(n) is the decimal of n (00_scope.md R7): digits only, reading back as n, with no leading zero but for 0 itself. -/
def Obligations.DecIsTheDecimal : Prop :=
  ∀ n : Nat,
    (∀ b ∈ dec n, 0x30 ≤ b.toNat ∧ b.toNat ≤ 0x39) ∧
    (dec n).foldl (fun a b => 10 * a + (b.toNat - 0x30)) 0 = n ∧
    (n ≠ 0 → (dec n).head? ≠ some 0x30) ∧ dec 0 = [0x30]

/-- FMT selects the format, with TX_NUM read as u32 for UINT and as s32 for SINT (R121, R26). The numeric payloads read back
as the number they were made from whenever it fits N_CAP bytes, sign included (R123, R124); a longer one keeps its leftmost
N_CAP bytes. -/
def Obligations.NumericPayloadsReadBack : Prop :=
  (∀ (nCap : Nat) (len : Half) (num : Word) (buf : List Byte),
    formatPayload nCap .text len num buf = fmtText nCap len.toNat buf ∧
    formatPayload nCap .uint len num buf = fmtUint nCap num.toNat ∧
    formatPayload nCap .sint len num buf =
      fmtSint nCap (if num.toNat < 2 ^ 31 then (num.toNat : Int) else (num.toNat : Int) - 2 ^ 32)) ∧
  ∀ (nCap n : Nat) (v : Int),
    ((dec n).length ≤ nCap →
      (fmtUint nCap n).length = nCap ∧ (∀ b ∈ fmtUint nCap n, 0x30 ≤ b.toNat ∧ b.toNat ≤ 0x39) ∧
      (fmtUint nCap n).foldl (fun a b => 10 * a + (b.toNat - 0x30)) 0 = n) ∧
    (nCap ≤ (dec n).length → fmtUint nCap n = (dec n).take nCap) ∧
    (0 ≤ v → fmtSint nCap v = fmtUint nCap v.toNat) ∧
    (v < 0 → (dec (-v).toNat).length < nCap →
      ∃ ds, fmtSint nCap v = 0x2D :: ds ∧ ds.length + 1 = nCap ∧ (∀ b ∈ ds, 0x30 ≤ b.toNat ∧ b.toNat ≤ 0x39) ∧
        -((ds.foldl (fun a b => 10 * a + (b.toNat - 0x30)) 0 : Nat) : Int) = v) ∧
    (v < 0 → nCap ≤ (dec (-v).toNat).length → fmtSint nCap v = (0x2D :: dec (-v).toNat).take nCap)

/-- The checksum laws (R198, (a) to (e)). -/
def Obligations.ChecksumLaws : Prop :=
  (∀ p : List Byte, verify p (some (compute p)) true = true) ∧
  (∀ p : List Byte, compute p + compute p = 0 ↔ sum16 p = 0 ∨ sum16 p = 32768) ∧
  (∀ p q : List Byte, compute (p ++ q) = compute p + compute q) ∧
  (∀ p q : List Byte, p.Perm q → compute p = compute q) ∧
  (∀ (p : List Byte) (i : Nat) (b : Byte), i < p.length →
    compute (p.set i b) = compute p - ((b.setWidth 16) - ((p.getD i 0).setWidth 16))) ∧
  (∀ (p : List Byte) (i : Nat) (b : Byte), i < p.length → b ≠ p.getD i 0 → compute (p.set i b) ≠ compute p)

/-- ParseChk reads exactly the fields R193 admits: five bytes, leading spaces, then at least one digit and digits only, with
a value of at most 65535. -/
def Obligations.ParseChkAccepts : Prop :=
  ∀ (c : List Byte) (n : Nat) (v : Half), c.length = 5 →
    (parseChk c n = some v ↔
      n = 5 ∧ ∃ j ds, j < 5 ∧ c = List.replicate j 0x20 ++ ds ∧ (∀ b ∈ ds, 0x30 ≤ b.toNat ∧ b.toNat ≤ 0x39) ∧
        ds.foldl (fun a b => 10 * a + (b.toNat - 0x30)) 0 = v.toNat)

/-- Dec5 is five digits, injective, and what ParseChk reads back (30_encoding.md R102; 42_checksum.md R192). -/
def Obligations.Dec5ReadsBack : Prop :=
  (∀ v : Half, (dec5 v).length = 5 ∧ (∀ b ∈ dec5 v, 0x30 ≤ b.toNat ∧ b.toNat ≤ 0x39) ∧ parseChk (dec5 v) 5 = some v) ∧
  (∀ v w : Half, dec5 v = dec5 w → v = w)

/-- Verify with checksum mode off is always 1, whatever the buffers hold (R195). -/
def Obligations.VerifyOffIsTrue : Prop :=
  ∀ (p : List Byte) (v : Option Half), verify p v false = true

/-! ## The register interface (10_state.md, 20_memory.md) -/

/-- STATUS, bit by bit, as the current state (R22), in every state; and its fields after a power-up. -/
def Obligations.StatusReadsTheState : Prop :=
  (∀ s : State,
    (readOffset s 0x004).getLsbD 0 = s.busy ∧ (readOffset s 0x004).getLsbD 1 = s.link.sending ∧
    (readOffset s 0x004).getLsbD 2 = txReady s ∧
    ((readOffset s 0x004).getLsbD 3 = true ↔ s.rx.phase = .frameComplete) ∧
    ((readOffset s 0x004).extractLsb' 4 2).toNat =
      (match s.rx.phase with | .idle => 0 | .readingPayload => 1 | .readingChecksum => 2 | .frameComplete => 3) ∧
    (readOffset s 0x004).getLsbD 6 = s.rx.trunc ∧ (readOffset s 0x004).getLsbD 7 = s.rx.chkOvf ∧
    (readOffset s 0x004).getLsbD 8 = s.link.modeHigh ∧ (readOffset s 0x004).getLsbD 9 = s.cmdActive ∧
    ((readOffset s 0x004).getLsbD 10 = true ↔ s.cfg.nCap ≤ s.cfg.chkMaxCap) ∧
    ∀ n, 11 ≤ n → (readOffset s 0x004).getLsbD n = false) ∧
  (∀ (c : Config) (now : Word) (d : Nat),
    (readOffset (State.powerOn c now d) 0x004).extractLsb' 3 7 = 0b0100000 ∧
    (readOffset (State.powerOn c now d) 0x004).getLsbD 0 = true ∧
    (readOffset (State.powerOn c now d) 0x004).getLsbD 1 = false)

/-- CTRL (R21): CHK_EN takes bit 0 where checksum mode is available and is 0 where it is not; FMT takes bits 2:1, but 3
leaves it; nothing else of the write is kept, and nothing else of the state changes. -/
def Obligations.CtrlWriteAnyReadLegal : Prop :=
  ∀ (s : State) (v : Word), ∃ t, hostWrite 4 0x000 v s = .next t ∧
    t = { s with ctrl := t.ctrl } ∧
    (readOffset t 0x000).getLsbD 0 = (v.getLsbD 0 && decide (s.cfg.nCap ≤ s.cfg.chkMaxCap)) ∧
    chkEnabled t = (v.getLsbD 0 && decide (s.cfg.nCap ≤ s.cfg.chkMaxCap)) ∧
    (v.extractLsb' 1 2 ≠ 3 → (readOffset t 0x000).extractLsb' 1 2 = v.extractLsb' 1 2) ∧
    (v.extractLsb' 1 2 = 0 → t.ctrl.fmt = .text) ∧ (v.extractLsb' 1 2 = 1 → t.ctrl.fmt = .uint) ∧
    (v.extractLsb' 1 2 = 2 → t.ctrl.fmt = .sint) ∧
    (v.extractLsb' 1 2 = 3 → t.ctrl.fmt = s.ctrl.fmt) ∧
    (readOffset t 0x000).extractLsb' 3 29 = 0

/-- The other RW registers (R25, R26, R32): TX_LEN and CMD_LEN keep bits[15:0], TX_NUM all 32, each reads back what it
kept, and nothing else changes. -/
def Obligations.DataRegistersReadBack : Prop :=
  ∀ (s : State) (v : Word),
    (∃ t, hostWrite 4 0x010 v s = .next t ∧ readOffset t 0x010 = v &&& 0xFFFF ∧ t = { s with txLen := t.txLen }) ∧
    (∃ t, hostWrite 4 0x014 v s = .next t ∧ readOffset t 0x014 = v ∧ t = { s with txNum := t.txNum }) ∧
    (∃ t, hostWrite 4 0x030 v s = .next t ∧ readOffset t 0x030 = v &&& 0xFFFF ∧ t = { s with cmdLen := t.cmdLen })

/-- The two RW windows (20_memory.md R62, R63): a write of word j stores exactly its four little-endian lanes, those below
the capacity, and leaves every other byte of every buffer; the word reads back lane by lane. -/
def Obligations.WindowWriteStoresItsLanes : Prop :=
  ∀ (s : State) (j : Nat) (v : Word), j < 1024 → Memory.wf s = true →
    (∃ t, hostWrite 4 (BitVec.ofNat 16 (0x1000 + 4 * j)) v s = .next t ∧ t = { s with txBuf := t.txBuf } ∧
      (∀ b n, t.byteAt b n =
        if b = .tx ∧ n / 4 = j ∧ n < s.cfg.nCap then v.extractLsb' (8 * (n % 4)) 8 else s.byteAt b n) ∧
      ∀ k < 4, (readOffset t (BitVec.ofNat 16 (0x1000 + 4 * j))).extractLsb' (8 * k) 8 =
        if 4 * j + k < s.cfg.nCap then v.extractLsb' (8 * k) 8 else 0) ∧
    (∃ t, hostWrite 4 (BitVec.ofNat 16 (0x3000 + 4 * j)) v s = .next t ∧ t = { s with cmdBuf := t.cmdBuf } ∧
      (∀ b n, t.byteAt b n =
        if b = .cmd ∧ n / 4 = j ∧ n < s.cfg.cmdCap then v.extractLsb' (8 * (n % 4)) 8 else s.byteAt b n) ∧
      ∀ k < 4, (readOffset t (BitVec.ofNat 16 (0x3000 + 4 * j))).extractLsb' (8 * k) 8 =
        if 4 * j + k < s.cfg.cmdCap then v.extractLsb' (8 * k) 8 else 0)

/-- The masked read-only windows (R30, R43, R45): a lane at or past the length register reads 0, a lane below it the
buffer's byte. -/
def Obligations.ReceivedBytesAreMasked : Prop :=
  ∀ (s : State) (j k : Nat), j < 1024 → k < 4 → s.Inv →
    (readOffset s (BitVec.ofNat 16 (0x2000 + 4 * j))).extractLsb' (8 * k) 8 =
      (if 4 * j + k < s.rx.len then s.byteAt .rx (4 * j + k) else 0) ∧
    (readOffset s (BitVec.ofNat 16 (0x4000 + 4 * j))).extractLsb' (8 * k) 8 =
      (if 4 * j + k < s.link.resp.len then s.byteAt .resp (4 * j + k) else 0) ∧
    (readOffset s 0x024).extractLsb' (8 * k) 8 = (if k < s.rx.chkLen then s.byteAt .rxChk k else 0) ∧
    (readOffset s 0x028).extractLsb' (8 * k) 8 = (if k = 0 ∧ 4 < s.rx.chkLen then s.byteAt .rxChk 4 else 0)

/-- The derived and the constant registers (R37, R39, R40) and the speed table's words (R41). -/
def Obligations.ConstantRegistersRead : Prop :=
  ∀ (s : State) (j : Nat), j < 256 → s.cfg.wf = true →
    readOffset s 0x044 = s.cfg.speeds.getD s.link.speedIdx 0 ∧ readOffset s 0x04C = s.now ∧
    (readOffset s 0x050).toNat = s.cfg.nCap ∧ (readOffset s 0x054).toNat = s.cfg.k ∧
    (readOffset s 0x058).toNat = s.cfg.cmdCap ∧ (readOffset s 0x05C).toNat = s.cfg.respCap ∧
    readOffset s (BitVec.ofNat 16 (0x0800 + 4 * j)) = if j < s.cfg.k then s.cfg.speeds.getD j 0 else 0

/-- Accesses with no effect (20_memory.md R65): a reserved range and an unused word read 0, CMD reads 0, and a write to
anything that is not CTRL, CMD, TX_LEN, TX_NUM, CMD_LEN, TX_DATA or CMD_TEXT changes nothing, nor does one to an unused
word of those two windows. A read has no other effect. -/
def Obligations.IgnoredAccessesChangeNothing : Prop :=
  ∀ (s : State) (a : Offset) (v : Word), a.toNat % 4 = 0 →
    hostRead 4 a s = .next { s with rdata := readOffset s a } ∧
    (a.toNat ∉ [0x000, 0x00C, 0x010, 0x014, 0x030] → ¬ (0x1000 ≤ a.toNat ∧ a.toNat < 0x2000) →
      ¬ (0x3000 ≤ a.toNat ∧ a.toNat < 0x4000) → hostWrite 4 a v s = .next s) ∧
    (0x1000 ≤ a.toNat ∧ a.toNat < 0x2000 → s.cfg.nCap ≤ a.toNat - 0x1000 →
      hostWrite 4 a v s = .next s ∧ readOffset s a = 0) ∧
    (0x3000 ≤ a.toNat ∧ a.toNat < 0x4000 → s.cfg.cmdCap ≤ a.toNat - 0x3000 →
      hostWrite 4 a v s = .next s ∧ readOffset s a = 0) ∧
    (0x2000 ≤ a.toNat ∧ a.toNat < 0x3000 → s.cfg.nCap ≤ a.toNat - 0x2000 → readOffset s a = 0) ∧
    (0x4000 ≤ a.toNat ∧ a.toNat < 0x5000 → s.cfg.respCap ≤ a.toNat - 0x4000 → readOffset s a = 0) ∧
    (0x0800 ≤ a.toNat ∧ a.toNat < 0x0C00 → 4 * s.cfg.k ≤ a.toNat - 0x0800 → readOffset s a = 0) ∧
    ((0x0060 ≤ a.toNat ∧ a.toNat < 0x0800) ∨ (0x0C00 ≤ a.toNat ∧ a.toNat < 0x1000) ∨ 0x5000 ≤ a.toNat →
      readOffset s a = 0) ∧
    readOffset s 0x00C = 0

/-- Which host accesses have a step (20_memory.md R61): those of size 4 with addr[1:0] = 0, in every state; any other is
refused. A read has no side effect (R66). -/
def Obligations.OnlyAlignedWordAccesses : Prop :=
  ∀ (s : State) (n : Nat) (a : Offset) (v : Word),
    (n = 4 ∧ a.toNat % 4 = 0 →
      hostRead n a s = .next { s with rdata := readOffset s a } ∧ ∃ t, hostWrite n a v s = .next t) ∧
    (¬ (n = 4 ∧ a.toNat % 4 = 0) →
      hostRead n a s = .refused .badAccess ∧ hostWrite n a v s = .refused .badAccess)

/-! ## Who writes what, over all steps of the machine -/

/-- CMD_STATUS (R23): LAST_OPC and CAUSE stand in bits 15:8 and 3:0 and the rest reads 0, every CMD write sets both fields,
and no other step but a reset, which leaves 0, writes them. -/
def Obligations.CmdStatusIsTheLastCommandWrite : Prop :=
  (∀ s : State, (readOffset s 0x008).extractLsb' 8 8 = s.cmdStatus.lastOpc ∧
    ((readOffset s 0x008).extractLsb' 0 4).toNat =
      (match s.cmdStatus.cause with
        | .accepted => 0 | .illegalOpcode => 1 | .reservedBits => 2 | .busy => 3 | .badOperand => 4 | .txNotReady => 5
        | .noFrame => 6) ∧
    (readOffset s 0x008).extractLsb' 4 4 = 0 ∧ (readOffset s 0x008).extractLsb' 16 16 = 0) ∧
  (∀ (s t : State) (w : Word), step s = .next t → nextEvent s = .hostWrite 4 0x00C w →
    t.cmdStatus.lastOpc = w.extractLsb' 0 8 ∧ issueCommand w (takeEvent s) = .next t) ∧
  (∀ s t : State, step s = .next t → ¬ IsCmdWrite (nextEvent s) → nextEvent s ≠ .reset → t.cmdStatus = s.cmdStatus) ∧
  (∀ s t : State, step s = .next t → nextEvent s = .reset → readOffset t 0x008 = 0)

/-- The decoder state is written only by the decoder, RX_REARM, CHK_VERIFY and reset (R46). -/
def Obligations.OnlyTheDecoderWritesItsState : Prop :=
  ∀ s t : State, step s = .next t → t.rx ≠ s.rx →
    nextEvent s = .decoderStep ∨ nextEvent s = .reset ∨ nextEvent s = .hostWrite 4 0x00C 0x00000002 ∨
    nextEvent s = .hostWrite 4 0x00C 0x00000004

/-- The transmit and command-text registers and buffers are written only by the host and reset (20_memory.md R63). -/
def Obligations.OnlyTheHostWritesItsBuffers : Prop :=
  ∀ s t : State, step s = .next t → nextEvent s ≠ .reset → (∀ n a v, nextEvent s ≠ .hostWrite n a v) →
    t.ctrl = s.ctrl ∧ t.txLen = s.txLen ∧ t.txNum = s.txNum ∧ t.txBuf = s.txBuf ∧ t.cmdLen = s.cmdLen ∧
    t.cmdBuf = s.cmdBuf ∧ t.chkValue = s.chkValue

/-- Results are final once BUSY is 0 (R72): until the host issues a command, or a reset comes, no step writes RESP_STATUS,
RESP_DATA, PROBE, SETSPEED, SPEED_IDX, the mode line or LAST_SEND, and nothing goes out at the ports. -/
def Obligations.ResultsAreFinalWhenIdle : Prop :=
  ∀ s t : State, s.Inv → s.busy = false → step s = .next t → ¬ IsCmdWrite (nextEvent s) → nextEvent s ≠ .reset →
    t.link = s.link ∧ t.probe = s.probe ∧ t.setSpeed = s.setSpeed ∧ t.trace = s.trace ∧ t.busy = false

/-- Nothing in the configuration changes, by any step (00_scope.md R5). -/
def Obligations.ConfigurationNeverChanges : Prop :=
  ∀ s t : State, step s = .next t → t.cfg = s.cfg

/-- The only refusals (60_exceptions.md R307): an ill-formed configuration, and a host access of another form; in every other
case the step has a next state, and no step faults. -/
def Obligations.StepsStopOnlyAsTheSpecSays : Prop :=
  ∀ s : State,
    (s.cfg.wf = false → step s = .refused .illFormedConfig) ∧
    (s.cfg.wf = true →
      (step s = .refused .badAccess ∧
        ∃ n a, ¬ (n = 4 ∧ a.toNat % 4 = 0) ∧
          (nextEvent s = .hostRead n a ∨ ∃ v, nextEvent s = .hostWrite n a v)) ∨
      ((∃ t, step s = .next t) ∧
        ∀ n a, (nextEvent s = .hostRead n a ∨ ∃ v, nextEvent s = .hostWrite n a v) → n = 4 ∧ a.toNat % 4 = 0))

/-! ## Reset, the step, and the invariants -/

/-- Reset (70_reset_and_hazards.md R340), from any state and so also during a running command (R346): the values the table
gives, with TX_READY's spacing counted from the reset step, and nothing of the block's earlier state left. A step whose event
is the reset input is that step. -/
def Obligations.ResetValues : Prop :=
  (∀ s : State, s.cfg.wf = true → nextEvent s = .reset → step s = .next (resetStep (takeEvent s))) ∧
  ∀ s : State, let t := resetStep s
    (t.ctrl = { chkEn := false, fmt := .text } ∧ t.busy = true ∧ t.link.sending = false ∧ t.rx.phase = .idle ∧
      t.rx.trunc = false ∧ t.rx.chkOvf = false ∧ t.link.modeHigh = true ∧ t.cmdActive = false) ∧
    (readOffset t 0x008 = 0 ∧ t.txLen = 0 ∧ t.txNum = 0 ∧ t.chkValue = 0 ∧ t.rx.len = 0 ∧ t.rx.chkLen = 0 ∧
      readOffset t 0x02C = 0 ∧ t.cmdLen = 0 ∧ readOffset t 0x034 = 0 ∧ readOffset t 0x038 = 0 ∧
      readOffset t 0x03C = 0) ∧
    (t.link.speedIdx = s.cfg.initSpeedIdx ∧ t.link.lastSend = s.now ∧ t.seq.op = some .resetSettle ∧
      t.seq.t0 = s.now ∧ t.cfg = s.cfg ∧ t.now = s.now ∧ t.rxQueue = s.rxQueue) ∧
    t.trace = .reconfigure (s.cfg.speeds.getD s.cfg.initSpeedIdx 0) :: .setMode true :: s.trace ∧
    (∀ u : State, u.cfg = s.cfg → u.now = s.now → u.draws = s.draws → u.rxQueue = s.rxQueue → u.trace = s.trace →
      u.rdata = s.rdata → u.pending = s.pending → resetStep u = t)

/-- The reset settle phase (R341): it holds until SET_HIGH_TIME has passed, then ends with BUSY 0 and no command running. That
a sequencer step before then changes nothing is log entry 7 (DEDUCED): the spec has no such step. -/
def Obligations.ResetSettlesThenIdle : Prop :=
  ∀ s : State, s.seq.op = some .resetSettle → s.seq.point = .settle →
    ((elapsed s.now s.seq.t0).toNat < s.cfg.setHighTime.toNat → sequencerStep s = s) ∧
    (s.cfg.setHighTime.toNat ≤ (elapsed s.now s.seq.t0).toNat →
      sequencerStep s = { s with busy := false, seq := { s.seq with op := none } })

/-- A step whose event is the write of a command word runs the command the word decodes to: the event leaves the schedule,
and the rest is exec of the decoded command. A step whose event names another agent is that agent's step (20_memory.md R70).
The schedule is the model's own (log entry 1, DESIGN CHOICE). -/
def Obligations.StepRunsTheDecodedCommand : Prop :=
  ∀ (s : State) (e : Event) (rest : List Event), s.cfg.wf = true → s.pending = e :: rest →
    let u := { s with pending := rest }
    (∀ w i, e = .hostWrite 4 0x00C w → decode w = .run i → step s = exec i u) ∧
    (∀ n a v, e = .hostWrite n a v → step s = hostWrite n a v u) ∧ (∀ n a, e = .hostRead n a → step s = hostRead n a u) ∧
    (e = .decoderStep → step s = .next (decoderStep u)) ∧ (e = .sequencerStep → step s = .next (sequencerStep u)) ∧
    (e = .transportAccept → step s = .next (transportAccept u)) ∧
    (∀ b, e = .transportDeliver b → step s = .next { u with rxQueue := s.rxQueue ++ [b] }) ∧
    (∀ ms, e = .clockAdvance ms → step s = .next { u with now := s.now + ms }) ∧
    (e = .reset → step s = .next (resetStep u))

/-- Headline: the invariant of 10_state.md R49, with what it rests on, is kept by every step from every state that has it. -/
def Obligations.EveryStepKeepsTheInvariant : Prop :=
  ∀ s t : State, s.Inv → step s = .next t → t.Inv

/-- The invariant holds after a power-up with any well-formed configuration, clock reading and buffer contents, and at
State.reset; its values that the spec does not give are the model's own (log entries 2, 4 and 6). -/
def Obligations.PowerUpHasTheInvariant : Prop :=
  (∀ (c : Config) (now : Word) (d : Nat), c.wf = true → (State.powerOn c now d).Inv) ∧ State.reset.Inv

/-- Headline: the status bits and the ports never disagree. From every state in which MODE_HIGH is the level the mode line was
last driven to and SPEED_IDX the index of the speed last asked for, every step gives such a state; a power-up gives one. -/
def Obligations.PortsAlwaysMatchStatus : Prop :=
  (∀ s t : State, PortsMatch s → step s = .next t → PortsMatch t) ∧
  (∀ (c : Config) (now : Word) (d : Nat), PortsMatch (State.powerOn c now d))

/-! ## The whole SendCommand, the result registers, and the mode of a checksum field -/

/-- SendCommand (R220), whole, in each of the five command-mode commands and with the text its rule gives: the copied text for
SEND_COMMAND (R234) and, at every index, PROBE (R252, R253), CMD_DETECT in Detect (R254), CMD_DEFAULT in FORCE_DEFAULT (R255),
CMD_SETSPEED(SPEEDS[t]) for SET_SPEED_SAFELY's own (R256). Its first step clears the response and drives the mode line low;
its run puts exactly the text on the wire, drains at most RESP_CAP bytes, OVF telling whether more were there, drives the line
high and returns to the command, whose position, index and copied inputs are as they were. A sequencer step at the end of the
last wait is that return. An empty text is log entry 5, the steps of the run are log entries 8 and 14 (DEDUCED). -/
def Obligations.SendCommandReturnsItsResponse : Prop :=
  (∀ (s : State) (text : List Byte), inCommandMode s = true → Memory.wf s = true →
    (s.seq.op = some .sendCommand ∨ s.seq.op = some .probe → text = s.seq.snap.bytes) →
    (s.seq.op = some .detectSpeed → text = s.cfg.cmdDetect) → (s.seq.op = some .forceDefault → text = s.cfg.cmdDefault) →
    (s.seq.op = some .setSpeedSafely → s.seq.stage = .direct → text = s.cfg.cmdSetSpeed.getD s.seq.snap.arg.toNat []) →
    (s.seq.op = some .setSpeedSafely → s.seq.stage ≠ .direct → text = s.cfg.cmdDetect) →
    (beginSendCommand s).trace = .setMode false :: s.trace ∧
    (beginSendCommand s).link =
      { s.link with modeHigh := false, resp := { len := 0, ovf := false, valid := false } } ∧
    ∃ v, afterSendCommandRun text.length (beginSendCommand s) = returnSendCommand v ∧
      response v = s.rxQueue.take s.cfg.respCap ∧
      v = { s with
        now := s.now + s.cfg.setLowTime + s.cfg.cmdTime + s.cfg.setHighTime, rxQueue := s.rxQueue.drop s.cfg.respCap,
        trace := .setMode true :: (text.map PortAct.txByte).reverse ++ .setMode false :: s.trace,
        link := { s.link with
          modeHigh := true,
          respBuf := s.rxQueue.take s.cfg.respCap ++ s.link.respBuf.drop (min s.rxQueue.length s.cfg.respCap),
          resp := { len := min s.rxQueue.length s.cfg.respCap, ovf := false, valid := false } },
        seq := { s.seq with
          point := .setHigh, t0 := s.now + s.cfg.setLowTime + s.cfg.cmdTime, k := v.seq.k,
          ovf := decide (s.cfg.respCap < s.rxQueue.length) } }) ∧
  (∀ s : State, s.seq.op ≠ none → s.seq.point = .setHigh → s.cfg.setHighTime.toNat ≤ (elapsed s.now s.seq.t0).toNat →
    sequencerStep s = returnSendCommand s) ∧
  (∀ s : State, s.seq.op = some .sendCommand →
    (s.seq.point = .start → sequencerStep s = beginSendCommand s) ∧
    returnSendCommand s = { s with
      busy := false, cmdActive := false, seq := { s.seq with op := none },
      link := { s.link with resp := { s.link.resp with ovf := s.seq.ovf, valid := true } } })

/-- The result registers as the host reads them, field by field: CHK_VALUE (R27), RX_LEN (R28), RX_CHK_LEN (R29), VERIFY
(R31), RESP_STATUS (R33), PROBE (R34), SETSPEED (R35), SPEED_IDX (R36) and LAST_SEND (R38). -/
def Obligations.ResultRegistersRead : Prop :=
  ∀ s : State, s.Inv →
    (readOffset s 0x018).toNat = s.chkValue.toNat ∧ (readOffset s 0x01C).toNat = s.rx.len ∧
    (readOffset s 0x020).toNat = s.rx.chkLen ∧ (readOffset s 0x040).toNat = s.link.speedIdx ∧
    readOffset s 0x048 = s.link.lastSend ∧
    ((readOffset s 0x02C).getLsbD 0 = s.rx.verify.valid ∧ (readOffset s 0x02C).getLsbD 1 = s.rx.verify.ok ∧
      (readOffset s 0x02C).getLsbD 2 = s.rx.verify.parsed ∧ (readOffset s 0x02C).getLsbD 3 = s.rx.verify.mode ∧
      (readOffset s 0x02C).extractLsb' 4 12 = 0 ∧ (readOffset s 0x02C).extractLsb' 16 16 = s.rx.verify.value) ∧
    (((readOffset s 0x034).extractLsb' 0 16).toNat = s.link.resp.len ∧
      (readOffset s 0x034).getLsbD 16 = s.link.resp.ovf ∧ (readOffset s 0x034).getLsbD 17 = s.link.resp.valid ∧
      (readOffset s 0x034).extractLsb' 18 14 = 0) ∧
    ((readOffset s 0x038).getLsbD 0 = s.probe.valid ∧ (readOffset s 0x038).getLsbD 1 = s.probe.found ∧
      (readOffset s 0x038).getLsbD 2 = s.probe.overflow ∧ (readOffset s 0x038).extractLsb' 3 5 = 0 ∧
      (readOffset s 0x038).extractLsb' 8 8 = s.probe.index ∧ (readOffset s 0x038).extractLsb' 16 16 = 0) ∧
    ((readOffset s 0x03C).getLsbD 0 = s.setSpeed.valid ∧ (readOffset s 0x03C).getLsbD 1 = s.setSpeed.ack ∧
      (readOffset s 0x03C).extractLsb' 2 6 = 0 ∧ (readOffset s 0x03C).extractLsb' 8 8 = s.setSpeed.target ∧
      (readOffset s 0x03C).extractLsb' 16 16 = 0)

/-- Headline: "RX_CHK_LEN > 0 implies CHK_EN was 1 at the decoder step that entered ReadingChecksum" (10_state.md R49), as an
invariant every step keeps: whatever record of CHK_EN at the last entry is right before a step is right after it. Only a
decoder step enters ReadingChecksum, and a power-up has nothing to record. -/
def Obligations.ChecksumFieldsBeginInChecksumMode : Prop :=
  (∀ (s t : State) (g : Bool), EnteredInChecksumMode s g → step s = .next t →
    EnteredInChecksumMode t (entryMode s t g)) ∧
  (∀ s t : State, step s = .next t → t.rx.phase = .readingChecksum → s.rx.phase ≠ .readingChecksum →
    nextEvent s = .decoderStep ∧ s.rx.phase = .readingPayload) ∧
  (∀ (c : Config) (now : Word) (d : Nat) (g : Bool), EnteredInChecksumMode (State.powerOn c now d) g)
end

