-- ==== Sys2Proof/Laws/State.lean ====
section
/-! SUPPORT. What each named operation of Machine/Ops.lean leaves in every field of State, true by rfl, one theorem an
operation and one clause a field: simp reads each clause as a rewriting rule of its own, so no later proof unfolds a record
update. Where an operation writes a field the clause says what it leaves there; every other clause is its frame. -/

namespace Sys2Proof.Machine

@[simp] theorem sendByte_fields (b : Byte) (s : State) :
    (sendByte b s).cfg = s.cfg ∧ (sendByte b s).ctrl = s.ctrl ∧ (sendByte b s).cmdStatus = s.cmdStatus ∧
    (sendByte b s).txLen = s.txLen ∧ (sendByte b s).txNum = s.txNum ∧ (sendByte b s).txBuf = s.txBuf ∧
    (sendByte b s).cmdLen = s.cmdLen ∧ (sendByte b s).cmdBuf = s.cmdBuf ∧ (sendByte b s).chkValue = s.chkValue ∧
    (sendByte b s).busy = s.busy ∧ (sendByte b s).cmdActive = s.cmdActive ∧ (sendByte b s).rx = s.rx ∧
    (sendByte b s).link = s.link ∧ (sendByte b s).probe = s.probe ∧ (sendByte b s).setSpeed = s.setSpeed ∧
    (sendByte b s).seq = s.seq ∧ (sendByte b s).now = s.now ∧ (sendByte b s).rxQueue = s.rxQueue ∧
    (sendByte b s).trace = .txByte b :: s.trace ∧ (sendByte b s).rdata = s.rdata ∧
    (sendByte b s).pending = s.pending ∧ (sendByte b s).draws = s.draws := by
  and_intros <;> rfl

@[simp] theorem setMode_fields (h : Bool) (s : State) :
    (setMode h s).cfg = s.cfg ∧ (setMode h s).ctrl = s.ctrl ∧ (setMode h s).cmdStatus = s.cmdStatus ∧
    (setMode h s).txLen = s.txLen ∧ (setMode h s).txNum = s.txNum ∧ (setMode h s).txBuf = s.txBuf ∧
    (setMode h s).cmdLen = s.cmdLen ∧ (setMode h s).cmdBuf = s.cmdBuf ∧ (setMode h s).chkValue = s.chkValue ∧
    (setMode h s).busy = s.busy ∧ (setMode h s).cmdActive = s.cmdActive ∧ (setMode h s).rx = s.rx ∧
    (setMode h s).link = { s.link with modeHigh := h } ∧ (setMode h s).probe = s.probe ∧
    (setMode h s).setSpeed = s.setSpeed ∧ (setMode h s).seq = s.seq ∧ (setMode h s).now = s.now ∧
    (setMode h s).rxQueue = s.rxQueue ∧ (setMode h s).trace = .setMode h :: s.trace ∧
    (setMode h s).rdata = s.rdata ∧ (setMode h s).pending = s.pending ∧ (setMode h s).draws = s.draws := by
  and_intros <;> rfl

@[simp] theorem reconfigureTo_fields (i : Nat) (s : State) :
    (reconfigureTo i s).cfg = s.cfg ∧ (reconfigureTo i s).ctrl = s.ctrl ∧
    (reconfigureTo i s).cmdStatus = s.cmdStatus ∧ (reconfigureTo i s).txLen = s.txLen ∧
    (reconfigureTo i s).txNum = s.txNum ∧ (reconfigureTo i s).txBuf = s.txBuf ∧
    (reconfigureTo i s).cmdLen = s.cmdLen ∧ (reconfigureTo i s).cmdBuf = s.cmdBuf ∧
    (reconfigureTo i s).chkValue = s.chkValue ∧ (reconfigureTo i s).busy = s.busy ∧
    (reconfigureTo i s).cmdActive = s.cmdActive ∧ (reconfigureTo i s).rx = s.rx ∧
    (reconfigureTo i s).link = { s.link with speedIdx := i } ∧ (reconfigureTo i s).probe = s.probe ∧
    (reconfigureTo i s).setSpeed = s.setSpeed ∧ (reconfigureTo i s).seq = s.seq ∧ (reconfigureTo i s).now = s.now ∧
    (reconfigureTo i s).rxQueue = s.rxQueue ∧
    (reconfigureTo i s).trace = .reconfigure (speedAt s.cfg i) :: s.trace ∧ (reconfigureTo i s).rdata = s.rdata ∧
    (reconfigureTo i s).pending = s.pending ∧ (reconfigureTo i s).draws = s.draws := by
  and_intros <;> rfl

@[simp] theorem emit_fields (d : Diag) (s : State) :
    (emit d s).cfg = s.cfg ∧ (emit d s).ctrl = s.ctrl ∧ (emit d s).cmdStatus = s.cmdStatus ∧
    (emit d s).txLen = s.txLen ∧ (emit d s).txNum = s.txNum ∧ (emit d s).txBuf = s.txBuf ∧
    (emit d s).cmdLen = s.cmdLen ∧ (emit d s).cmdBuf = s.cmdBuf ∧ (emit d s).chkValue = s.chkValue ∧
    (emit d s).busy = s.busy ∧ (emit d s).cmdActive = s.cmdActive ∧ (emit d s).rx = s.rx ∧
    (emit d s).link = s.link ∧ (emit d s).probe = s.probe ∧ (emit d s).setSpeed = s.setSpeed ∧
    (emit d s).seq = s.seq ∧ (emit d s).now = s.now ∧ (emit d s).rxQueue = s.rxQueue ∧
    (emit d s).trace = .emit d :: s.trace ∧ (emit d s).rdata = s.rdata ∧ (emit d s).pending = s.pending ∧
    (emit d s).draws = s.draws := by
  and_intros <;> rfl

@[simp] theorem setCmdStatus_fields (c : Cause) (o : Byte) (s : State) :
    (setCmdStatus c o s).cfg = s.cfg ∧ (setCmdStatus c o s).ctrl = s.ctrl ∧
    (setCmdStatus c o s).cmdStatus = { cause := c, lastOpc := o } ∧ (setCmdStatus c o s).txLen = s.txLen ∧
    (setCmdStatus c o s).txNum = s.txNum ∧ (setCmdStatus c o s).txBuf = s.txBuf ∧
    (setCmdStatus c o s).cmdLen = s.cmdLen ∧ (setCmdStatus c o s).cmdBuf = s.cmdBuf ∧
    (setCmdStatus c o s).chkValue = s.chkValue ∧ (setCmdStatus c o s).busy = s.busy ∧
    (setCmdStatus c o s).cmdActive = s.cmdActive ∧ (setCmdStatus c o s).rx = s.rx ∧
    (setCmdStatus c o s).link = s.link ∧ (setCmdStatus c o s).probe = s.probe ∧
    (setCmdStatus c o s).setSpeed = s.setSpeed ∧ (setCmdStatus c o s).seq = s.seq ∧
    (setCmdStatus c o s).now = s.now ∧ (setCmdStatus c o s).rxQueue = s.rxQueue ∧
    (setCmdStatus c o s).trace = s.trace ∧ (setCmdStatus c o s).rdata = s.rdata ∧
    (setCmdStatus c o s).pending = s.pending ∧ (setCmdStatus c o s).draws = s.draws := by
  and_intros <;> rfl

@[simp] theorem accept_fields (o : Byte) (s : State) :
    (accept o s).cfg = s.cfg ∧ (accept o s).ctrl = s.ctrl ∧
    (accept o s).cmdStatus = { cause := .accepted, lastOpc := o } ∧ (accept o s).txLen = s.txLen ∧
    (accept o s).txNum = s.txNum ∧ (accept o s).txBuf = s.txBuf ∧ (accept o s).cmdLen = s.cmdLen ∧
    (accept o s).cmdBuf = s.cmdBuf ∧ (accept o s).chkValue = s.chkValue ∧ (accept o s).busy = s.busy ∧
    (accept o s).cmdActive = s.cmdActive ∧ (accept o s).rx = s.rx ∧ (accept o s).link = s.link ∧
    (accept o s).probe = s.probe ∧ (accept o s).setSpeed = s.setSpeed ∧ (accept o s).seq = s.seq ∧
    (accept o s).now = s.now ∧ (accept o s).rxQueue = s.rxQueue ∧ (accept o s).trace = s.trace ∧
    (accept o s).rdata = s.rdata ∧ (accept o s).pending = s.pending ∧ (accept o s).draws = s.draws := by
  and_intros <;> rfl

@[simp] theorem startCommandMode_fields (op : Op) (o : Byte) (g : Stage) (n : Snap) (s : State) :
    (startCommandMode op o g n s).cfg = s.cfg ∧ (startCommandMode op o g n s).ctrl = s.ctrl ∧
    (startCommandMode op o g n s).cmdStatus = { cause := .accepted, lastOpc := o } ∧
    (startCommandMode op o g n s).txLen = s.txLen ∧ (startCommandMode op o g n s).txNum = s.txNum ∧
    (startCommandMode op o g n s).txBuf = s.txBuf ∧ (startCommandMode op o g n s).cmdLen = s.cmdLen ∧
    (startCommandMode op o g n s).cmdBuf = s.cmdBuf ∧ (startCommandMode op o g n s).chkValue = s.chkValue ∧
    (startCommandMode op o g n s).busy = true ∧ (startCommandMode op o g n s).cmdActive = true ∧
    (startCommandMode op o g n s).rx = s.rx ∧ (startCommandMode op o g n s).link = s.link ∧
    (startCommandMode op o g n s).probe = s.probe ∧ (startCommandMode op o g n s).setSpeed = s.setSpeed ∧
    (startCommandMode op o g n s).seq = { s.seq with op := some op, stage := g, point := .start, snap := n } ∧
    (startCommandMode op o g n s).now = s.now ∧ (startCommandMode op o g n s).rxQueue = s.rxQueue ∧
    (startCommandMode op o g n s).trace = s.trace ∧ (startCommandMode op o g n s).rdata = s.rdata ∧
    (startCommandMode op o g n s).pending = s.pending ∧ (startCommandMode op o g n s).draws = s.draws := by
  and_intros <;> rfl

@[simp] theorem startTxSend_fields (o : Byte) (f : List Byte) (s : State) :
    (startTxSend o f s).cfg = s.cfg ∧ (startTxSend o f s).ctrl = s.ctrl ∧
    (startTxSend o f s).cmdStatus = { cause := .accepted, lastOpc := o } ∧ (startTxSend o f s).txLen = s.txLen ∧
    (startTxSend o f s).txNum = s.txNum ∧ (startTxSend o f s).txBuf = s.txBuf ∧
    (startTxSend o f s).cmdLen = s.cmdLen ∧ (startTxSend o f s).cmdBuf = s.cmdBuf ∧
    (startTxSend o f s).chkValue = s.chkValue ∧ (startTxSend o f s).busy = true ∧
    (startTxSend o f s).cmdActive = s.cmdActive ∧ (startTxSend o f s).rx = s.rx ∧
    (startTxSend o f s).link = { s.link with sending := true } ∧ (startTxSend o f s).probe = s.probe ∧
    (startTxSend o f s).setSpeed = s.setSpeed ∧
    (startTxSend o f s).seq =
      { s.seq with op := some .txSend, stage := .direct, point := .txFrame, snap := { bytes := f, arg := 0 }, k := 0 } ∧
    (startTxSend o f s).now = s.now ∧ (startTxSend o f s).rxQueue = s.rxQueue ∧
    (startTxSend o f s).trace = s.trace ∧ (startTxSend o f s).rdata = s.rdata ∧
    (startTxSend o f s).pending = s.pending ∧ (startTxSend o f s).draws = s.draws := by
  and_intros <;> rfl

@[simp] theorem endTxSend_fields (s : State) :
    (endTxSend s).cfg = s.cfg ∧ (endTxSend s).ctrl = s.ctrl ∧ (endTxSend s).cmdStatus = s.cmdStatus ∧
    (endTxSend s).txLen = s.txLen ∧ (endTxSend s).txNum = s.txNum ∧ (endTxSend s).txBuf = s.txBuf ∧
    (endTxSend s).cmdLen = s.cmdLen ∧ (endTxSend s).cmdBuf = s.cmdBuf ∧ (endTxSend s).chkValue = s.chkValue ∧
    (endTxSend s).busy = false ∧ (endTxSend s).cmdActive = s.cmdActive ∧ (endTxSend s).rx = s.rx ∧
    (endTxSend s).link = { s.link with sending := false, lastSend := s.now } ∧ (endTxSend s).probe = s.probe ∧
    (endTxSend s).setSpeed = s.setSpeed ∧ (endTxSend s).seq = { s.seq with op := none } ∧
    (endTxSend s).now = s.now ∧ (endTxSend s).rxQueue = s.rxQueue ∧ (endTxSend s).trace = s.trace ∧
    (endTxSend s).rdata = s.rdata ∧ (endTxSend s).pending = s.pending ∧ (endTxSend s).draws = s.draws := by
  and_intros <;> rfl

@[simp] theorem endCommandMode_fields (s : State) :
    (endCommandMode s).cfg = s.cfg ∧ (endCommandMode s).ctrl = s.ctrl ∧ (endCommandMode s).cmdStatus = s.cmdStatus ∧
    (endCommandMode s).txLen = s.txLen ∧ (endCommandMode s).txNum = s.txNum ∧ (endCommandMode s).txBuf = s.txBuf ∧
    (endCommandMode s).cmdLen = s.cmdLen ∧ (endCommandMode s).cmdBuf = s.cmdBuf ∧
    (endCommandMode s).chkValue = s.chkValue ∧ (endCommandMode s).busy = false ∧
    (endCommandMode s).cmdActive = false ∧ (endCommandMode s).rx = s.rx ∧ (endCommandMode s).link = s.link ∧
    (endCommandMode s).probe = s.probe ∧ (endCommandMode s).setSpeed = s.setSpeed ∧
    (endCommandMode s).seq = { s.seq with op := none } ∧ (endCommandMode s).now = s.now ∧
    (endCommandMode s).rxQueue = s.rxQueue ∧ (endCommandMode s).trace = s.trace ∧
    (endCommandMode s).rdata = s.rdata ∧ (endCommandMode s).pending = s.pending ∧ (endCommandMode s).draws = s.draws := by
  and_intros <;> rfl

@[simp] theorem endSettle_fields (s : State) :
    (endSettle s).cfg = s.cfg ∧ (endSettle s).ctrl = s.ctrl ∧ (endSettle s).cmdStatus = s.cmdStatus ∧
    (endSettle s).txLen = s.txLen ∧ (endSettle s).txNum = s.txNum ∧ (endSettle s).txBuf = s.txBuf ∧
    (endSettle s).cmdLen = s.cmdLen ∧ (endSettle s).cmdBuf = s.cmdBuf ∧ (endSettle s).chkValue = s.chkValue ∧
    (endSettle s).busy = false ∧ (endSettle s).cmdActive = s.cmdActive ∧ (endSettle s).rx = s.rx ∧
    (endSettle s).link = s.link ∧ (endSettle s).probe = s.probe ∧ (endSettle s).setSpeed = s.setSpeed ∧
    (endSettle s).seq = { s.seq with op := none } ∧ (endSettle s).now = s.now ∧ (endSettle s).rxQueue = s.rxQueue ∧
    (endSettle s).trace = s.trace ∧ (endSettle s).rdata = s.rdata ∧ (endSettle s).pending = s.pending ∧
    (endSettle s).draws = s.draws := by
  and_intros <;> rfl

@[simp] theorem holdAt_fields (p : Point) (s : State) :
    (holdAt p s).cfg = s.cfg ∧ (holdAt p s).ctrl = s.ctrl ∧ (holdAt p s).cmdStatus = s.cmdStatus ∧
    (holdAt p s).txLen = s.txLen ∧ (holdAt p s).txNum = s.txNum ∧ (holdAt p s).txBuf = s.txBuf ∧
    (holdAt p s).cmdLen = s.cmdLen ∧ (holdAt p s).cmdBuf = s.cmdBuf ∧ (holdAt p s).chkValue = s.chkValue ∧
    (holdAt p s).busy = s.busy ∧ (holdAt p s).cmdActive = s.cmdActive ∧ (holdAt p s).rx = s.rx ∧
    (holdAt p s).link = s.link ∧ (holdAt p s).probe = s.probe ∧ (holdAt p s).setSpeed = s.setSpeed ∧
    (holdAt p s).seq = { s.seq with point := p } ∧ (holdAt p s).now = s.now ∧ (holdAt p s).rxQueue = s.rxQueue ∧
    (holdAt p s).trace = s.trace ∧ (holdAt p s).rdata = s.rdata ∧ (holdAt p s).pending = s.pending ∧
    (holdAt p s).draws = s.draws := by
  and_intros <;> rfl

@[simp] theorem startText_fields (s : State) :
    (startText s).cfg = s.cfg ∧ (startText s).ctrl = s.ctrl ∧ (startText s).cmdStatus = s.cmdStatus ∧
    (startText s).txLen = s.txLen ∧ (startText s).txNum = s.txNum ∧ (startText s).txBuf = s.txBuf ∧
    (startText s).cmdLen = s.cmdLen ∧ (startText s).cmdBuf = s.cmdBuf ∧ (startText s).chkValue = s.chkValue ∧
    (startText s).busy = s.busy ∧ (startText s).cmdActive = s.cmdActive ∧ (startText s).rx = s.rx ∧
    (startText s).link = s.link ∧ (startText s).probe = s.probe ∧ (startText s).setSpeed = s.setSpeed ∧
    (startText s).seq = { s.seq with point := .txText, k := 0 } ∧ (startText s).now = s.now ∧
    (startText s).rxQueue = s.rxQueue ∧ (startText s).trace = s.trace ∧ (startText s).rdata = s.rdata ∧
    (startText s).pending = s.pending ∧ (startText s).draws = s.draws := by
  and_intros <;> rfl

@[simp] theorem nextByte_fields (s : State) :
    (nextByte s).cfg = s.cfg ∧ (nextByte s).ctrl = s.ctrl ∧ (nextByte s).cmdStatus = s.cmdStatus ∧
    (nextByte s).txLen = s.txLen ∧ (nextByte s).txNum = s.txNum ∧ (nextByte s).txBuf = s.txBuf ∧
    (nextByte s).cmdLen = s.cmdLen ∧ (nextByte s).cmdBuf = s.cmdBuf ∧ (nextByte s).chkValue = s.chkValue ∧
    (nextByte s).busy = s.busy ∧ (nextByte s).cmdActive = s.cmdActive ∧ (nextByte s).rx = s.rx ∧
    (nextByte s).link = s.link ∧ (nextByte s).probe = s.probe ∧ (nextByte s).setSpeed = s.setSpeed ∧
    (nextByte s).seq = { s.seq with k := s.seq.k + 1 } ∧ (nextByte s).now = s.now ∧
    (nextByte s).rxQueue = s.rxQueue ∧ (nextByte s).trace = s.trace ∧ (nextByte s).rdata = s.rdata ∧
    (nextByte s).pending = s.pending ∧ (nextByte s).draws = s.draws := by
  and_intros <;> rfl

@[simp] theorem startWait_fields (p : Point) (s : State) :
    (startWait p s).cfg = s.cfg ∧ (startWait p s).ctrl = s.ctrl ∧ (startWait p s).cmdStatus = s.cmdStatus ∧
    (startWait p s).txLen = s.txLen ∧ (startWait p s).txNum = s.txNum ∧ (startWait p s).txBuf = s.txBuf ∧
    (startWait p s).cmdLen = s.cmdLen ∧ (startWait p s).cmdBuf = s.cmdBuf ∧ (startWait p s).chkValue = s.chkValue ∧
    (startWait p s).busy = s.busy ∧ (startWait p s).cmdActive = s.cmdActive ∧ (startWait p s).rx = s.rx ∧
    (startWait p s).link = s.link ∧ (startWait p s).probe = s.probe ∧ (startWait p s).setSpeed = s.setSpeed ∧
    (startWait p s).seq = { s.seq with point := p, t0 := s.now } ∧ (startWait p s).now = s.now ∧
    (startWait p s).rxQueue = s.rxQueue ∧ (startWait p s).trace = s.trace ∧ (startWait p s).rdata = s.rdata ∧
    (startWait p s).pending = s.pending ∧ (startWait p s).draws = s.draws := by
  and_intros <;> rfl

@[simp] theorem setIndex_fields (i : Nat) (s : State) :
    (setIndex i s).cfg = s.cfg ∧ (setIndex i s).ctrl = s.ctrl ∧ (setIndex i s).cmdStatus = s.cmdStatus ∧
    (setIndex i s).txLen = s.txLen ∧ (setIndex i s).txNum = s.txNum ∧ (setIndex i s).txBuf = s.txBuf ∧
    (setIndex i s).cmdLen = s.cmdLen ∧ (setIndex i s).cmdBuf = s.cmdBuf ∧ (setIndex i s).chkValue = s.chkValue ∧
    (setIndex i s).busy = s.busy ∧ (setIndex i s).cmdActive = s.cmdActive ∧ (setIndex i s).rx = s.rx ∧
    (setIndex i s).link = s.link ∧ (setIndex i s).probe = s.probe ∧ (setIndex i s).setSpeed = s.setSpeed ∧
    (setIndex i s).seq = { s.seq with i := i } ∧ (setIndex i s).now = s.now ∧ (setIndex i s).rxQueue = s.rxQueue ∧
    (setIndex i s).trace = s.trace ∧ (setIndex i s).rdata = s.rdata ∧ (setIndex i s).pending = s.pending ∧
    (setIndex i s).draws = s.draws := by
  and_intros <;> rfl

@[simp] theorem setStage_fields (g : Stage) (s : State) :
    (setStage g s).cfg = s.cfg ∧ (setStage g s).ctrl = s.ctrl ∧ (setStage g s).cmdStatus = s.cmdStatus ∧
    (setStage g s).txLen = s.txLen ∧ (setStage g s).txNum = s.txNum ∧ (setStage g s).txBuf = s.txBuf ∧
    (setStage g s).cmdLen = s.cmdLen ∧ (setStage g s).cmdBuf = s.cmdBuf ∧ (setStage g s).chkValue = s.chkValue ∧
    (setStage g s).busy = s.busy ∧ (setStage g s).cmdActive = s.cmdActive ∧ (setStage g s).rx = s.rx ∧
    (setStage g s).link = s.link ∧ (setStage g s).probe = s.probe ∧ (setStage g s).setSpeed = s.setSpeed ∧
    (setStage g s).seq = { s.seq with stage := g } ∧ (setStage g s).now = s.now ∧
    (setStage g s).rxQueue = s.rxQueue ∧ (setStage g s).trace = s.trace ∧ (setStage g s).rdata = s.rdata ∧
    (setStage g s).pending = s.pending ∧ (setStage g s).draws = s.draws := by
  and_intros <;> rfl

@[simp] theorem setOvf_fields (o : Bool) (s : State) :
    (setOvf o s).cfg = s.cfg ∧ (setOvf o s).ctrl = s.ctrl ∧ (setOvf o s).cmdStatus = s.cmdStatus ∧
    (setOvf o s).txLen = s.txLen ∧ (setOvf o s).txNum = s.txNum ∧ (setOvf o s).txBuf = s.txBuf ∧
    (setOvf o s).cmdLen = s.cmdLen ∧ (setOvf o s).cmdBuf = s.cmdBuf ∧ (setOvf o s).chkValue = s.chkValue ∧
    (setOvf o s).busy = s.busy ∧ (setOvf o s).cmdActive = s.cmdActive ∧ (setOvf o s).rx = s.rx ∧
    (setOvf o s).link = s.link ∧ (setOvf o s).probe = s.probe ∧ (setOvf o s).setSpeed = s.setSpeed ∧
    (setOvf o s).seq = { s.seq with ovf := o } ∧ (setOvf o s).now = s.now ∧ (setOvf o s).rxQueue = s.rxQueue ∧
    (setOvf o s).trace = s.trace ∧ (setOvf o s).rdata = s.rdata ∧ (setOvf o s).pending = s.pending ∧
    (setOvf o s).draws = s.draws := by
  and_intros <;> rfl

@[simp] theorem setAck_fields (a : Bool) (s : State) :
    (setAck a s).cfg = s.cfg ∧ (setAck a s).ctrl = s.ctrl ∧ (setAck a s).cmdStatus = s.cmdStatus ∧
    (setAck a s).txLen = s.txLen ∧ (setAck a s).txNum = s.txNum ∧ (setAck a s).txBuf = s.txBuf ∧
    (setAck a s).cmdLen = s.cmdLen ∧ (setAck a s).cmdBuf = s.cmdBuf ∧ (setAck a s).chkValue = s.chkValue ∧
    (setAck a s).busy = s.busy ∧ (setAck a s).cmdActive = s.cmdActive ∧ (setAck a s).rx = s.rx ∧
    (setAck a s).link = s.link ∧ (setAck a s).probe = s.probe ∧ (setAck a s).setSpeed = s.setSpeed ∧
    (setAck a s).seq = { s.seq with ack := a } ∧ (setAck a s).now = s.now ∧ (setAck a s).rxQueue = s.rxQueue ∧
    (setAck a s).trace = s.trace ∧ (setAck a s).rdata = s.rdata ∧ (setAck a s).pending = s.pending ∧
    (setAck a s).draws = s.draws := by
  and_intros <;> rfl

@[simp] theorem clearResponse_fields (s : State) :
    (clearResponse s).cfg = s.cfg ∧ (clearResponse s).ctrl = s.ctrl ∧ (clearResponse s).cmdStatus = s.cmdStatus ∧
    (clearResponse s).txLen = s.txLen ∧ (clearResponse s).txNum = s.txNum ∧ (clearResponse s).txBuf = s.txBuf ∧
    (clearResponse s).cmdLen = s.cmdLen ∧ (clearResponse s).cmdBuf = s.cmdBuf ∧
    (clearResponse s).chkValue = s.chkValue ∧ (clearResponse s).busy = s.busy ∧
    (clearResponse s).cmdActive = s.cmdActive ∧ (clearResponse s).rx = s.rx ∧
    (clearResponse s).link = { s.link with resp := { len := 0, ovf := false, valid := false } } ∧
    (clearResponse s).probe = s.probe ∧ (clearResponse s).setSpeed = s.setSpeed ∧ (clearResponse s).seq = s.seq ∧
    (clearResponse s).now = s.now ∧ (clearResponse s).rxQueue = s.rxQueue ∧ (clearResponse s).trace = s.trace ∧
    (clearResponse s).rdata = s.rdata ∧ (clearResponse s).pending = s.pending ∧ (clearResponse s).draws = s.draws := by
  and_intros <;> rfl

@[simp] theorem storeResponse_fields (b : Byte) (q : List Byte) (s : State) :
    (storeResponse b q s).cfg = s.cfg ∧ (storeResponse b q s).ctrl = s.ctrl ∧
    (storeResponse b q s).cmdStatus = s.cmdStatus ∧ (storeResponse b q s).txLen = s.txLen ∧
    (storeResponse b q s).txNum = s.txNum ∧ (storeResponse b q s).txBuf = s.txBuf ∧
    (storeResponse b q s).cmdLen = s.cmdLen ∧ (storeResponse b q s).cmdBuf = s.cmdBuf ∧
    (storeResponse b q s).chkValue = s.chkValue ∧ (storeResponse b q s).busy = s.busy ∧
    (storeResponse b q s).cmdActive = s.cmdActive ∧ (storeResponse b q s).rx = s.rx ∧
    (storeResponse b q s).link =
      { s.link with
        respBuf := s.link.respBuf.set s.link.resp.len b, resp := { s.link.resp with len := s.link.resp.len + 1 } } ∧
    (storeResponse b q s).probe = s.probe ∧ (storeResponse b q s).setSpeed = s.setSpeed ∧
    (storeResponse b q s).seq = s.seq ∧ (storeResponse b q s).now = s.now ∧ (storeResponse b q s).rxQueue = q ∧
    (storeResponse b q s).trace = s.trace ∧ (storeResponse b q s).rdata = s.rdata ∧
    (storeResponse b q s).pending = s.pending ∧ (storeResponse b q s).draws = s.draws := by
  and_intros <;> rfl

@[simp] theorem publishResponse_fields (s : State) :
    (publishResponse s).cfg = s.cfg ∧ (publishResponse s).ctrl = s.ctrl ∧
    (publishResponse s).cmdStatus = s.cmdStatus ∧ (publishResponse s).txLen = s.txLen ∧
    (publishResponse s).txNum = s.txNum ∧ (publishResponse s).txBuf = s.txBuf ∧
    (publishResponse s).cmdLen = s.cmdLen ∧ (publishResponse s).cmdBuf = s.cmdBuf ∧
    (publishResponse s).chkValue = s.chkValue ∧ (publishResponse s).busy = s.busy ∧
    (publishResponse s).cmdActive = s.cmdActive ∧ (publishResponse s).rx = s.rx ∧
    (publishResponse s).link = { s.link with resp := { s.link.resp with ovf := s.seq.ovf, valid := true } } ∧
    (publishResponse s).probe = s.probe ∧ (publishResponse s).setSpeed = s.setSpeed ∧
    (publishResponse s).seq = s.seq ∧ (publishResponse s).now = s.now ∧ (publishResponse s).rxQueue = s.rxQueue ∧
    (publishResponse s).trace = s.trace ∧ (publishResponse s).rdata = s.rdata ∧
    (publishResponse s).pending = s.pending ∧ (publishResponse s).draws = s.draws := by
  and_intros <;> rfl

@[simp] theorem setProbe_fields (p : ProbeReg) (s : State) :
    (setProbe p s).cfg = s.cfg ∧ (setProbe p s).ctrl = s.ctrl ∧ (setProbe p s).cmdStatus = s.cmdStatus ∧
    (setProbe p s).txLen = s.txLen ∧ (setProbe p s).txNum = s.txNum ∧ (setProbe p s).txBuf = s.txBuf ∧
    (setProbe p s).cmdLen = s.cmdLen ∧ (setProbe p s).cmdBuf = s.cmdBuf ∧ (setProbe p s).chkValue = s.chkValue ∧
    (setProbe p s).busy = s.busy ∧ (setProbe p s).cmdActive = s.cmdActive ∧ (setProbe p s).rx = s.rx ∧
    (setProbe p s).link = s.link ∧ (setProbe p s).probe = p ∧ (setProbe p s).setSpeed = s.setSpeed ∧
    (setProbe p s).seq = s.seq ∧ (setProbe p s).now = s.now ∧ (setProbe p s).rxQueue = s.rxQueue ∧
    (setProbe p s).trace = s.trace ∧ (setProbe p s).rdata = s.rdata ∧ (setProbe p s).pending = s.pending ∧
    (setProbe p s).draws = s.draws := by
  and_intros <;> rfl

@[simp] theorem invalidateProbe_fields (s : State) :
    (invalidateProbe s).cfg = s.cfg ∧ (invalidateProbe s).ctrl = s.ctrl ∧
    (invalidateProbe s).cmdStatus = s.cmdStatus ∧ (invalidateProbe s).txLen = s.txLen ∧
    (invalidateProbe s).txNum = s.txNum ∧ (invalidateProbe s).txBuf = s.txBuf ∧
    (invalidateProbe s).cmdLen = s.cmdLen ∧ (invalidateProbe s).cmdBuf = s.cmdBuf ∧
    (invalidateProbe s).chkValue = s.chkValue ∧ (invalidateProbe s).busy = s.busy ∧
    (invalidateProbe s).cmdActive = s.cmdActive ∧ (invalidateProbe s).rx = s.rx ∧
    (invalidateProbe s).link = s.link ∧ (invalidateProbe s).probe = { s.probe with valid := false } ∧
    (invalidateProbe s).setSpeed = s.setSpeed ∧ (invalidateProbe s).seq = s.seq ∧ (invalidateProbe s).now = s.now ∧
    (invalidateProbe s).rxQueue = s.rxQueue ∧ (invalidateProbe s).trace = s.trace ∧
    (invalidateProbe s).rdata = s.rdata ∧ (invalidateProbe s).pending = s.pending ∧
    (invalidateProbe s).draws = s.draws := by
  and_intros <;> rfl

@[simp] theorem publishSetSpeed_fields (s : State) :
    (publishSetSpeed s).cfg = s.cfg ∧ (publishSetSpeed s).ctrl = s.ctrl ∧
    (publishSetSpeed s).cmdStatus = s.cmdStatus ∧ (publishSetSpeed s).txLen = s.txLen ∧
    (publishSetSpeed s).txNum = s.txNum ∧ (publishSetSpeed s).txBuf = s.txBuf ∧
    (publishSetSpeed s).cmdLen = s.cmdLen ∧ (publishSetSpeed s).cmdBuf = s.cmdBuf ∧
    (publishSetSpeed s).chkValue = s.chkValue ∧ (publishSetSpeed s).busy = s.busy ∧
    (publishSetSpeed s).cmdActive = s.cmdActive ∧ (publishSetSpeed s).rx = s.rx ∧
    (publishSetSpeed s).link = s.link ∧ (publishSetSpeed s).probe = s.probe ∧
    (publishSetSpeed s).setSpeed = { valid := true, ack := s.seq.ack, target := s.seq.snap.arg } ∧
    (publishSetSpeed s).seq = s.seq ∧ (publishSetSpeed s).now = s.now ∧ (publishSetSpeed s).rxQueue = s.rxQueue ∧
    (publishSetSpeed s).trace = s.trace ∧ (publishSetSpeed s).rdata = s.rdata ∧
    (publishSetSpeed s).pending = s.pending ∧ (publishSetSpeed s).draws = s.draws := by
  and_intros <;> rfl

end Sys2Proof.Machine
end

