-- ==== Sys2Proof/Laws/Bus.lean ====
section
/-! SUPPORT. Which register each offset of 10_state.md R20 reads, so that no later proof goes through the address map. -/

namespace Sys2Proof.Machine

/-- The offsets of R20. -/
@[simp] theorem readOffset_registers (s : State) :
    readOffset s 0x000#16 = readReg s .ctrl ∧ readOffset s 0x004#16 = readReg s .status ∧
    readOffset s 0x008#16 = readReg s .cmdStatus ∧ readOffset s 0x00C#16 = readReg s .cmd ∧
    readOffset s 0x010#16 = readReg s .txLen ∧ readOffset s 0x014#16 = readReg s .txNum ∧
    readOffset s 0x018#16 = readReg s .chkValue ∧ readOffset s 0x01C#16 = readReg s .rxLen ∧
    readOffset s 0x020#16 = readReg s .rxChkLen ∧ readOffset s 0x024#16 = readReg s .rxChkLo ∧
    readOffset s 0x028#16 = readReg s .rxChkHi ∧ readOffset s 0x02C#16 = readReg s .verify ∧
    readOffset s 0x030#16 = readReg s .cmdLen ∧ readOffset s 0x034#16 = readReg s .respStatus ∧
    readOffset s 0x038#16 = readReg s .probe ∧ readOffset s 0x03C#16 = readReg s .setSpeed ∧
    readOffset s 0x040#16 = readReg s .speedIdx ∧ readOffset s 0x044#16 = readReg s .speedValue ∧
    readOffset s 0x048#16 = readReg s .lastSend ∧ readOffset s 0x04C#16 = readReg s .clock ∧
    readOffset s 0x050#16 = readReg s .capMsg ∧ readOffset s 0x054#16 = readReg s .capSpeeds ∧
    readOffset s 0x058#16 = readReg s .capCmd ∧ readOffset s 0x05C#16 = readReg s .capResp := by
  and_intros <;> rfl

end Sys2Proof.Machine
end

