-- ==== Sys2Proof/Laws/Exec.lean ====
section
/-! SUPPORT. What each command's host step can do: the rejections it knows and its acceptance (60_exceptions.md R301), and
what a host access can do (20_memory.md R61). Each is stated once; later proofs take the cases from here. -/

namespace Sys2Proof.Machine

theorem execTxSend_cases (s : State) :
    (s.busy = true ∧ execTxSend s = reject .busy 0x01 s) ∨
    (s.busy = false ∧ txReady s = false ∧ execTxSend s = reject .txNotReady 0x01 s) ∨
    (s.busy = false ∧ txReady s = true ∧ execTxSend s = .next (startTxSend 0x01 (txFrame s) s)) := by
  cases hb : s.busy <;> cases ht : txReady s <;> simp [execTxSend, hb, ht]

theorem execChkVerify_cases (s : State) :
    (s.rx.phase ≠ .frameComplete ∧ execChkVerify s = reject .noFrame 0x04 s) ∨
    (s.rx.phase = .frameComplete ∧
      execChkVerify s = .next { accept 0x04 s with rx := { s.rx with verify := verdict (chkEnabled s) s.rx } }) := by
  by_cases h : s.rx.phase = .frameComplete <;> simp [execChkVerify, h]

theorem execSendCommand_cases (s : State) :
    (s.busy = true ∧ execSendCommand s = reject .busy 0x10 s) ∨
    (s.busy = false ∧ badCommandLength s = true ∧ execSendCommand s = reject .badOperand 0x10 s) ∨
    (s.busy = false ∧ badCommandLength s = false ∧
      execSendCommand s
        = .next (startCommandMode .sendCommand 0x10 .direct { bytes := commandText s, arg := 0 } s)) := by
  cases hb : s.busy <;> cases hl : badCommandLength s <;> simp [execSendCommand, hb, hl]

theorem execProbe_cases (s : State) :
    (s.busy = true ∧ execProbe s = reject .busy 0x11 s) ∨
    (s.busy = false ∧ badCommandLength s = true ∧ execProbe s = reject .badOperand 0x11 s) ∨
    (s.busy = false ∧ badCommandLength s = false ∧
      execProbe s = .next (startCommandMode .probe 0x11 .search { bytes := commandText s, arg := 0 } s)) := by
  cases hb : s.busy <;> cases hl : badCommandLength s <;> simp [execProbe, hb, hl]

theorem execDetectSpeed_cases (s : State) :
    (s.busy = true ∧ execDetectSpeed s = reject .busy 0x12 s) ∨
    (s.busy = false ∧
      execDetectSpeed s = .next (startCommandMode .detectSpeed 0x12 .search { bytes := [], arg := 0 } s)) := by
  cases hb : s.busy <;> simp [execDetectSpeed, hb]

theorem execForceDefault_cases (s : State) :
    (s.busy = true ∧ execForceDefault s = reject .busy 0x13 s) ∨
    (s.busy = false ∧
      execForceDefault s = .next (startCommandMode .forceDefault 0x13 .search { bytes := [], arg := 0 } s)) := by
  cases hb : s.busy <;> simp [execForceDefault, hb]

theorem execSetSpeedSafely_cases (t : Byte) (s : State) :
    (s.busy = true ∧ execSetSpeedSafely t s = reject .busy 0x14 s) ∨
    (s.busy = false ∧ s.cfg.k ≤ t.toNat ∧ execSetSpeedSafely t s = reject .badOperand 0x14 s) ∨
    (s.busy = false ∧ t.toNat < s.cfg.k ∧
      execSetSpeedSafely t s
        = .next { startCommandMode .setSpeedSafely 0x14 .direct { bytes := [], arg := t } s with
            setSpeed := { s.setSpeed with valid := false } }) := by
  by_cases hk : s.cfg.k ≤ t.toNat
  · cases hb : s.busy <;> simp [execSetSpeedSafely, hb, hk]
  · have := Nat.lt_of_not_le hk
    cases hb : s.busy <;> simp [execSetSpeedSafely, hb, hk, this]

/-- A host access either has its step or is refused for its form, and for nothing else (20_memory.md R61). -/
theorem hostRead_cases (n : Nat) (a : Offset) (s : State) :
    (accessOk n a = true ∧ hostRead n a s = .next { s with rdata := readOffset s a }) ∨
    (accessOk n a = false ∧ hostRead n a s = .refused .badAccess) := by
  cases h : accessOk n a <;> simp [hostRead, h]

theorem hostWrite_cases (n : Nat) (a : Offset) (v : Word) (s : State) :
    (accessOk n a = true ∧ hostWrite n a v s = writeOffset a v s) ∨
    (accessOk n a = false ∧ hostWrite n a v s = .refused .badAccess) := by
  cases h : accessOk n a <;> simp [hostWrite, h]

end Sys2Proof.Machine
end

