-- ==== Sys2Proof/Laws/Memory.lean ====
section
/-! SUPPORT. The buffers' laws: what one written byte or word leaves at every place, that each operation which stores into a
buffer keeps its length (hence Memory.wf), and that a power-up and a reset leave every buffer at its capacity. -/

namespace Sys2Proof.Machine

/-- Memory.wf, clause by clause. -/
theorem memory_wf_iff (s : State) :
    Memory.wf s = true ↔ s.txBuf.length = s.cfg.nCap ∧ s.rx.buf.length = s.cfg.nCap ∧ s.rx.chk.length = 5 ∧
      s.cmdBuf.length = s.cfg.cmdCap ∧ s.link.respBuf.length = s.cfg.respCap := by
  simp [Memory.wf, State.buffer, Config.capacity, Config.chkDigits]

@[simp] theorem putByte_length (cap : Nat) (buf : List Byte) (i : Nat) (b : Byte) :
    (putByte cap buf i b).length = buf.length := by
  unfold putByte; split <;> simp

/-- Reading a byte after a byte write: the written byte at its own place, every other place as before. -/
theorem putByte_getD (cap : Nat) (buf : List Byte) (i j : Nat) (b : Byte) (h : buf.length = cap) :
    (putByte cap buf i b).getD j 0 = if i = j ∧ i < cap then b else buf.getD j 0 := by
  unfold putByte
  by_cases hi : i < cap
  · by_cases hj : i = j
    · subst hj; simp [hi, h]
    · simp [hi, hj, List.getElem?_set_ne hj]
  · simp [hi]

@[simp] theorem putWord_length (cap : Nat) (buf : List Byte) (j : Nat) (v : Word) :
    (putWord cap buf j v).length = buf.length := by
  simp [putWord]

/-- DecodeStep keeps the lengths of its two buffers. -/
theorem decodeByte_lengths (c : Config) (chk : Bool) (b : Byte) (r : Rx) :
    (decodeByte c chk b r).buf.length = r.buf.length ∧ (decodeByte c chk b r).chk.length = r.chk.length := by
  unfold decodeByte takePayloadByte takeChecksumByte startFrame
  cases r.phase <;> cases classify c chk b <;> dsimp only <;> (try exact ⟨rfl, rfl⟩)
  · split
    · simp
    · split <;> simp
  · split <;> simp

theorem decoderStep_wf {s : State} (h : Memory.wf s = true) : Memory.wf (decoderStep s) = true := by
  rw [memory_wf_iff] at *
  unfold decoderStep
  split
  · exact h
  · split
    · exact h
    · obtain ⟨h1, h2⟩ := decodeByte_lengths s.cfg (chkEnabled s) (by assumption) s.rx
      exact ⟨h.1, h1.trans h.2.1, h2.trans h.2.2.1, h.2.2.2⟩

theorem writeWindow_wf {s : State} (w : Window) (j : Nat) (v : Word) (h : Memory.wf s = true) :
    Memory.wf (writeWindow w j v s) = true := by
  rw [memory_wf_iff] at *
  cases w <;> simpa [writeWindow] using h

theorem storeResponse_wf {s : State} (b : Byte) (q : List Byte) (h : Memory.wf s = true) :
    Memory.wf (storeResponse b q s) = true := by
  rw [memory_wf_iff] at *
  simpa using h

@[simp] theorem drawnBuffer_length (c : Config) (d : Nat) (b : Buffer) : (drawnBuffer c d b).length = c.capacity b := by
  simp [drawnBuffer]

theorem powerOn_wf (c : Config) (now : Word) (d : Nat) : Memory.wf (State.powerOn c now d) = true := by
  simp [memory_wf_iff, State.powerOn, Config.capacity, Config.chkDigits]

theorem reset_wf : Memory.wf State.reset = true := powerOn_wf _ _ _

theorem resetStep_wf (s : State) : Memory.wf (resetStep s) = true := powerOn_wf s.cfg s.now s.draws

end Sys2Proof.Machine
end

