-- ==== Sys2Proof/Laws/PerInstr.lean ====
section
/-! SUPPORT. The family Encoding: every command's word fits its row of spec/opcode_table.json, bit for bit, with the row's
mask and match written out (30_encoding.md R90, R91). One lemma a constructor. -/

namespace Sys2Proof.Laws.Encoding

/-- The (mask, match) columns of the command's row in spec/opcode_table.json. -/
def row : Instr → Word × Word
  | .nop              => (0xFFFFFFFF, 0x00000000)
  | .txSend           => (0xFFFFFFFF, 0x00000001)
  | .rxRearm          => (0xFFFFFFFF, 0x00000002)
  | .chkCompute       => (0xFFFFFFFF, 0x00000003)
  | .chkVerify        => (0xFFFFFFFF, 0x00000004)
  | .sendCommand      => (0xFFFFFFFF, 0x00000010)
  | .probe            => (0xFFFFFFFF, 0x00000011)
  | .detectSpeed      => (0xFFFFFFFF, 0x00000012)
  | .forceDefault     => (0xFFFFFFFF, 0x00000013)
  | .setSpeedSafely _ => (0xFFFF00FF, 0x00000014)

/-- The encoded word under the row's mask is the row's match. -/
def Statement (i : Instr) : Prop := encode i &&& (row i).1 = (row i).2

theorem nop : Statement .nop := by unfold Statement; decide
theorem txSend : Statement .txSend := by unfold Statement; decide
theorem rxRearm : Statement .rxRearm := by unfold Statement; decide
theorem chkCompute : Statement .chkCompute := by unfold Statement; decide
theorem chkVerify : Statement .chkVerify := by unfold Statement; decide
theorem sendCommand : Statement .sendCommand := by unfold Statement; decide
theorem probe : Statement .probe := by unfold Statement; decide
theorem detectSpeed : Statement .detectSpeed := by unfold Statement; decide
theorem forceDefault : Statement .forceDefault := by unfold Statement; decide

theorem setSpeedSafely (t : Byte) : Statement (.setSpeedSafely t) := by
  revert t; unfold Statement; decide

/-- Two different rows of the opcode table never match one word: their fixed bits disagree. -/
theorem rows_disjoint :
    [(0xFFFFFFFF, 0x00), (0xFFFFFFFF, 0x01), (0xFFFFFFFF, 0x02), (0xFFFFFFFF, 0x03), (0xFFFFFFFF, 0x04),
     (0xFFFFFFFF, 0x10), (0xFFFFFFFF, 0x11), (0xFFFFFFFF, 0x12), (0xFFFFFFFF, 0x13), (0xFFFF00FF, 0x14)].Pairwise
      fun (p q : Word × Word) => p.1 &&& q.1 &&& p.2 ≠ p.1 &&& q.1 &&& q.2 := by
  decide

end Sys2Proof.Laws.Encoding
end

