-- ==== Sys2Proof/Laws/Sequencer.lean ====
section
/-! SUPPORT. What the sequencer's shared operations can do: a wait is held or passed, a drain iteration has three outcomes, a
transport acceptance two. Later proofs cite these and do not unfold the operations. -/

namespace Sys2Proof.Machine

/-- The step that reaches a Wait(T) passes it at once exactly when T is 0 (43_link_controller.md R213). -/
theorem beginWait_cases (p : Point) (t : Word) (after : State → State) (s : State) :
    (t = 0 ∧ beginWait p t after s = after (startWait p s)) ∨ (t ≠ 0 ∧ beginWait p t after s = startWait p s) := by
  have h : waitOver t (startWait p s) = decide (t.toNat ≤ 0) := by
    simp only [waitOver, elapsed, startWait_fields, BitVec.sub_self, BitVec.toNat_zero]
  unfold beginWait
  dsimp only
  rw [h]
  by_cases ht : t = 0
  · subst ht; exact .inl ⟨rfl, rfl⟩
  · have h0 : ¬ t.toNat ≤ 0 := fun h0 => ht (BitVec.eq_of_toNat_eq (Nat.le_zero.mp h0))
    exact .inr ⟨ht, if_neg (by simpa using h0)⟩

/-- A held wait passes exactly when its condition holds, and otherwise the sequencer has no step (R213). -/
theorem resumeWait_cases (t : Word) (after : State → State) (s : State) :
    (waitOver t s = true ∧ resumeWait t after s = after s) ∨ (waitOver t s = false ∧ resumeWait t after s = s) := by
  cases h : waitOver t s <;> simp [resumeWait, h]

/-- A Wait that takes exactly its time, whatever that is: what follows it runs on the state that reached it with the clock
advanced by its length. `held` says that a sequencer step at that primitive is the wait's (R213). -/
theorem afterWait_beginWait (p : Point) (d : Word) (after : State → State) (s : State)
    (held : ∀ u : State, u.seq.op = s.seq.op → u.seq.point = p → u.cfg = s.cfg → sequencerStep u = resumeWait d after u) :
    afterWait d (beginWait p d after s) = after (advanceClock d (startWait p s)) := by
  rcases beginWait_cases p d after s with ⟨hd, hb⟩ | ⟨hd, hb⟩ <;> rw [hb]
  · subst hd
    have h0 : advanceClock 0 (startWait p s) = startWait p s := by
      rw [advanceClock, show (startWait p s).now + 0 = _ from BitVec.add_zero _]
    rw [h0, afterWait, if_pos rfl]
  · have he : elapsed (s.now + d) s.now = d := by rw [elapsed, BitVec.add_comm, BitVec.add_sub_cancel]
    rw [afterWait, if_neg hd, held (advanceClock d (startWait p s)) rfl rfl rfl, resumeWait, if_pos]
    simp only [waitOver, advanceClock, startWait, he, Nat.le_refl, decide_true]

/-- One drain iteration: nothing available, a full buffer with a byte available, or a byte stored (R220). -/
theorem drainStep_cases (s : State) :
    (s.rxQueue = [] ∧ drainStep s = endDrain false s) ∨
    (∃ b q, s.rxQueue = b :: q ∧ s.link.resp.len = s.cfg.respCap ∧ drainStep s = endDrain true s) ∨
    (∃ b q, s.rxQueue = b :: q ∧ s.link.resp.len ≠ s.cfg.respCap ∧ drainStep s = storeResponse b q s) := by
  unfold drainStep
  cases hq : s.rxQueue with
  | nil => exact .inl ⟨rfl, rfl⟩
  | cons b q =>
    by_cases hl : s.link.resp.len = s.cfg.respCap
    · exact .inr (.inl ⟨b, q, rfl, hl, by simp [hl]⟩)
    · exact .inr (.inr ⟨b, q, rfl, hl, by simp [hl]⟩)

/-- A transport acceptance passes the offered byte to the wire, or there is none on offer (R214). -/
theorem transportAccept_cases (s : State) :
    (offeredByte s = none ∧ transportAccept s = s) ∨
    (∃ b, offeredByte s = some b ∧ s.seq.point = .txFrame ∧ transportAccept s = afterFrameByte (sendByte b s)) ∨
    (∃ b, offeredByte s = some b ∧ s.seq.point = .txText ∧ transportAccept s = afterTextByte (sendByte b s)) := by
  cases h : offeredByte s with
  | none => exact .inl ⟨rfl, by simp [transportAccept, h]⟩
  | some b =>
    have hp : s.seq.point = .txFrame ∨ s.seq.point = .txText := by
      unfold offeredByte at h
      cases ho : s.seq.op <;> cases hp : s.seq.point <;> simp_all
    rcases hp with hp | hp
    · exact .inr (.inl ⟨b, rfl, hp, by simp [transportAccept, h, hp]⟩)
    · exact .inr (.inr ⟨b, rfl, hp, by simp [transportAccept, h, hp]⟩)

/-- With no command running the sequencer has no step and offers nothing. -/
theorem sequencer_idle {s : State} (h : s.seq.op = none) : sequencerStep s = s ∧ transportAccept s = s := by
  constructor
  · simp [sequencerStep, h]
  · simp [transportAccept, offeredByte, h]

end Sys2Proof.Machine
end

