-- ==== Sys2Proof/Tests/Slice0.lean ====
section
/-! SUPPORT. Small tests, each of one step or one function, with results taken from the spec (95_test_vectors.md where a
vector is named), and for every statement with hypotheses a named witness that meets them. -/

namespace Sys2Proof.Tests

open Sys2Proof Sys2Proof.Machine

/-! ## Test states -/

/-- The default configuration with the two capacities the vectors vary. -/
def cfgOf (nCap respCap : Nat) : Config := { Config.default with nCap := nCap, respCap := respCap }

/-- An idle block, TX_READY 1 (LAST_SEND 1000, clock 1200), "Hi" in TX_DATA and "AT" in CMD_TEXT, CHK_EN as given. -/
def idle (nCap respCap : Nat) (chk : Bool) : State where
  cfg       := cfgOf nCap respCap
  ctrl      := { chkEn := chk, fmt := .text }
  cmdStatus := { cause := .accepted, lastOpc := 0 }
  txLen     := 2
  txNum     := 0
  txBuf     := ([0x48, 0x69] ++ List.replicate nCap 0).take nCap
  cmdLen    := 2
  cmdBuf    := [0x41, 0x54, 0, 0, 0, 0, 0, 0, 0, 0, 0, 0, 0, 0, 0, 0]
  chkValue  := 0
  busy      := false
  cmdActive := false
  rx :=
    { phase := .idle, len := 0, chkLen := 0, buf := List.replicate nCap 0, chk := [0, 0, 0, 0, 0],
      trunc := false, chkOvf := false,
      verify := { valid := false, ok := false, parsed := false, mode := false, value := 0 } }
  link :=
    { sending := false, lastSend := 1000, modeHigh := true, speedIdx := 3, respBuf := List.replicate respCap 0,
      resp := { len := 0, ovf := false, valid := false } }
  probe    := { valid := false, found := false, overflow := false, index := 0 }
  setSpeed := { valid := false, ack := false, target := 0 }
  seq :=
    { op := none, stage := .direct, point := .start, snap := { bytes := [], arg := 0 }, t0 := 0,
      i := 0, k := 0, ack := false, ovf := false }
  now      := 1200
  rxQueue  := []
  trace    := []
  rdata    := 0
  pending  := []
  draws    := 0

/-- The idle block with a complete frame, "AB" with the field "65405", held in the receive lock. -/
def locked : State :=
  { idle 2 16 true with
    rx :=
      { phase := .frameComplete, len := 2, chkLen := 5, buf := [0x41, 0x42], chk := [0x36, 0x35, 0x34, 0x30, 0x35],
        trunc := false, chkOvf := false,
        verify := { valid := false, ok := false, parsed := false, mode := false, value := 0 } } }

/-- A block in the reset settle phase (SET_HIGH_TIME is 50), `ms` after its reset at 1000. -/
def settling (ms : Word) : State :=
  { idle 4 16 false with
    busy := true, now := 1000 + ms,
    seq := { (idle 4 16 false).seq with op := some .resetSettle, point := .settle, t0 := 1000 } }

/-- A SEND_COMMAND of "AT" held at a wait that began at 1200, `ms` ago, the mode line as given. -/
def waiting (p : Point) (high : Bool) (ms : Word) : State :=
  { idle 4 16 false with
    busy := true, cmdActive := true, now := 1200 + ms,
    link := { (idle 4 16 false).link with modeHigh := high },
    seq := { (idle 4 16 false).seq with
      op := some .sendCommand, stage := .direct, point := p, snap := { bytes := [0x41, 0x54], arg := 0 }, t0 := 1200 } }

/-- A command-mode command whose SendCommand has just drained `resp` with overflow bit `ovf`: loop index, target and
settle delays as given. -/
def drained (op : Op) (stage : Stage) (i : Nat) (arg : Byte) (resp : List Byte) (ovf : Bool) (delay : Word) : State :=
  { idle 4 16 false with
    cfg := { cfgOf 4 16 with tReconfPre := delay, tReconfPost := delay },
    busy := true, cmdActive := true,
    link := { (idle 4 16 false).link with
      respBuf := (resp ++ List.replicate 16 0).take 16, resp := { len := resp.length, ovf := false, valid := false } },
    seq := { (idle 4 16 false).seq with
      op := some op, stage := stage, point := .setHigh, snap := { bytes := [0x41, 0x54], arg := arg }, i := i,
      ovf := ovf } }

/-- A command-mode command that has just been accepted, with the target given. -/
def begun (op : Op) (stage : Stage) (arg : Byte) : State :=
  { idle 4 16 false with
    busy := true, cmdActive := true, probe := { valid := true, found := true, overflow := false, index := 3 },
    seq := { (idle 4 16 false).seq with
      op := some op, stage := stage, point := .start, snap := { bytes := [0x41, 0x54], arg := arg } } }

/-- "OK" and CR LF. -/
def okCrLf : List Byte := [0x4F, 0x4B, 0x0D, 0x0A]

/-- The outcome is a next state that passes the check. -/
def nextIs (p : State → Bool) : Host.Outcome State Fault Refusal → Bool
  | .next s    => p s
  | .fault _   => false
  | .refused _ => false

/-- The outcome is the given refusal. -/
def refusedAs (r : Refusal) : Host.Outcome State Fault Refusal → Bool
  | .next _    => false
  | .fault _   => false
  | .refused q => r == q

/-- A next state that passes the check, as an existence. -/
theorem of_nextIs {p : State → Bool} {o : Host.Outcome State Fault Refusal} (h : nextIs p o = true) :
    ∃ t, o = .next t ∧ p t = true := by
  cases o with
  | next t => exact ⟨t, rfl, h⟩
  | fault r => cases r
  | refused r => exact absurd h (by simp [nextIs])

/-- A state whose next event is the given one. -/
def onEvent (e : Event) (s : State) : State := { s with pending := [e] }

/-- The decoder after the given bytes. -/
def decodeAll (nCap : Nat) (chk : Bool) (bs : List Byte) : Rx :=
  bs.foldl (fun r b => decodeByte (cfgOf nCap 16) chk b r) (idle nCap 16 chk).rx

/-! ## WellFormed: an ill-formed term for each check -/

theorem test_default_config_wf : Config.default.wf = true := by decide
theorem test_wf_markers_distinct : { Config.default with endMark := 0x3C }.markersDistinct = false := by decide
theorem test_wf_markers_distinct_delim : { Config.default with delim := 0x3E }.wf = false := by decide
theorem test_wf_markers_free_digit : { Config.default with startMark := 0x39 }.markersFree = false := by decide
theorem test_wf_markers_free_space : { Config.default with delim := 0x20 }.wf = false := by decide
theorem test_wf_markers_free_minus : { Config.default with endMark := 0x2D }.wf = false := by decide
theorem test_wf_capacity_zero : { Config.default with nCap := 0 }.capacitiesInRange = false := by decide
theorem test_wf_capacity_over : { Config.default with respCap := 4097 }.wf = false := by decide
theorem test_wf_no_speeds : { Config.default with speeds := [] }.speedCountInRange = false := by decide
theorem test_wf_speeds_ascending : { Config.default with speeds := [9600, 9600] }.speedsAscending = false := by decide
theorem test_wf_speed_zero : { Config.default with speeds := [0, 9600] }.speedsAscending = false := by decide
theorem test_wf_init_speed : { Config.default with initSpeedIdx := 8 }.initSpeedInTable = false := by decide

/-- 00_scope.md R6 excludes no command text. -/
theorem test_wf_any_text : { Config.default with cmdDetect := [], cmdDefault := [], cmdSetSpeed := [] }.wf = true := by decide

theorem test_wf_access_narrow : accessOk 2 0x000 = false := by decide
theorem test_wf_access_misaligned : accessOk 4 0x002 = false := by decide
theorem test_wf_operand : (Instr.setSpeedSafely 8).operandOk 8 = false := by decide

/-- An ill-formed configuration has no step (00_scope.md R6). -/
theorem test_ill_formed_config_refused :
    refusedAs .illFormedConfig
      (step { idle 4 16 false with cfg := { Config.default with endMark := 0x3C } }) = true := by decide

/-- A misaligned access has no step (20_memory.md R61). -/
theorem test_misaligned_refused :
    refusedAs .badAccess (step (onEvent (.hostRead 4 0x006) (idle 4 16 false))) = true := by decide

/-! ## Decoding: RSV (16 bits), ARG (8), OPC (8) of each row, written out from 30_encoding.md R90 and R91 -/

theorem test_decode_nop : decode 0b00000000000000000000000000000000#32 = .run .nop := by decide
theorem test_decode_txSend : decode 0b00000000000000000000000000000001#32 = .run .txSend := by decide
theorem test_decode_rxRearm : decode 0b00000000000000000000000000000010#32 = .run .rxRearm := by decide
theorem test_decode_chkCompute : decode 0b00000000000000000000000000000011#32 = .run .chkCompute := by decide
theorem test_decode_chkVerify : decode 0b00000000000000000000000000000100#32 = .run .chkVerify := by decide
theorem test_decode_sendCommand : decode 0b00000000000000000000000000010000#32 = .run .sendCommand := by decide
theorem test_decode_probe : decode 0b00000000000000000000000000010001#32 = .run .probe := by decide
theorem test_decode_detectSpeed : decode 0b00000000000000000000000000010010#32 = .run .detectSpeed := by decide
theorem test_decode_forceDefault : decode 0b00000000000000000000000000010011#32 = .run .forceDefault := by decide

/-- Target index 0xA5 = 10100101. -/
theorem test_decode_setSpeedSafely :
    decode 0b00000000000000001010010100010100#32 = .run (.setSpeedSafely 0xA5) := by decide

theorem test_decode_illegal : decode 0x000001FF = .illegalOpcode := by decide
theorem test_decode_reserved_arg : decode 0x00000101 = .reservedBits := by decide
theorem test_decode_reserved_rsv : decode 0x00010014 = .reservedBits := by decide
theorem test_decodeTableWord : decodeTableWord 32 0x00000714 = some (.setSpeedSafely 7) := by decide

/-- The command placed by withFetchWord is the very next thing to run, from reset. -/
theorem test_withFetchWord_runs :
    nextIs (fun t => cmdStatusWord t == 0x00000200) (step (State.reset.withFetchWord 32 0x00000002)) = true := by decide

/-! ## Command acceptance (95_test_vectors.md section 5) -/

theorem test_nop_clears_cause :
    nextIs (fun t => cmdStatusWord t == 0x00000000) (issueCommand 0x00000000 (settling 10)) = true := by decide
theorem test_av8_illegal_before_reserved :
    nextIs (fun t => cmdStatusWord t == 0x0000FF01) (issueCommand 0x000001FF (idle 4 16 false)) = true := by decide
theorem test_av7_reserved_before_busy :
    nextIs (fun t => cmdStatusWord t == 0x00000102) (issueCommand 0x00000101 (settling 10)) = true := by decide
theorem test_av26_txSend_busy :
    nextIs (fun t => cmdStatusWord t == 0x00000103) (issueCommand 0x00000001 (settling 10)) = true := by decide
theorem test_av10_txSend_not_ready :
    nextIs (fun t => cmdStatusWord t == 0x00000105)
      (issueCommand 0x00000001 { idle 4 16 false with now := 1099 }) = true := by decide
theorem test_av12_rxRearm_while_busy :
    nextIs (fun t => cmdStatusWord t == 0x00000200) (issueCommand 0x00000002 (settling 10)) = true := by decide
theorem test_av14_chkVerify_no_frame :
    nextIs (fun t => cmdStatusWord t == 0x00000406) (issueCommand 0x00000004 (idle 4 16 false)) = true := by decide
theorem test_av17_sendCommand_too_long :
    nextIs (fun t => cmdStatusWord t == 0x00001004)
      (issueCommand 0x00000010 { idle 4 16 false with cmdLen := 17 }) = true := by decide
theorem test_av18_sendCommand_busy_first :
    nextIs (fun t => cmdStatusWord t == 0x00001003)
      (issueCommand 0x00000010 { settling 10 with cmdLen := 0 }) = true := by decide
theorem test_av19_probe_accepted :
    nextIs (fun t => cmdStatusWord t == 0x00001100 && t.busy && t.cmdActive)
      (issueCommand 0x00000011 (idle 4 16 false)) = true := by decide
theorem test_av20_detectSpeed_ignores_length :
    nextIs (fun t => cmdStatusWord t == 0x00001200)
      (issueCommand 0x00000012 { idle 4 16 false with cmdLen := 0 }) = true := by decide
theorem test_av21_forceDefault_busy :
    nextIs (fun t => cmdStatusWord t == 0x00001303) (issueCommand 0x00000013 (settling 10)) = true := by decide
theorem test_av22_setSpeedSafely_last :
    nextIs (fun t => cmdStatusWord t == 0x00001400) (issueCommand 0x00000714 (idle 4 16 false)) = true := by decide
theorem test_av23_setSpeedSafely_past_table :
    nextIs (fun t => cmdStatusWord t == 0x00001404) (issueCommand 0x00000814 (idle 4 16 false)) = true := by decide

/-! ## What the commands do -/

/-- 95_test_vectors.md section 3: N_CAP 4, "Hi", checksum mode. -/
theorem test_txSend_frame :
    nextIs (fun t => t.seq.snap.bytes ==
        [0x3C, 0x48, 0x69, 0x20, 0x20, 0x2C, 0x36, 0x35, 0x32, 0x39, 0x35, 0x3E])
      (exec .txSend (idle 4 16 true)) = true := by decide

/-- The acceptance of the last byte ends TX_SEND (43_link_controller.md R231). -/
theorem test_txSend_last_byte :
    let s := { idle 4 16 false with
      busy := true, link := { (idle 4 16 false).link with sending := true },
      seq := { (idle 4 16 false).seq with
        op := some .txSend, point := .txFrame, snap := { bytes := [0x3C, 0x3E], arg := 0 }, k := 1 } }
    (transportAccept s).busy = false ∧ (transportAccept s).link.lastSend = 1200 ∧
      (transportAccept s).trace = [.txByte 0x3E] := by decide

/-- 95_test_vectors.md LV2: RX_DATA word 0 and VERIFY read 0. -/
theorem test_rxRearm_masks :
    nextIs (fun t => readOffset t 0x2000 == 0 && readReg t .verify == 0 && readReg t .rxLen == 0)
      (exec .rxRearm locked) = true := by decide

/-- 42_checksum.md R196: N_CAP 4, "Hi" gives 65295. -/
theorem test_chkCompute_value :
    nextIs (fun t => readReg t .chkValue == 0x0000FF0F) (exec .chkCompute (idle 4 16 false)) = true := by decide

/-- 95_test_vectors.md DV4. -/
theorem test_chkVerify_intact :
    nextIs (fun t => readReg t .verify == 0xFF7D000F) (exec .chkVerify locked) = true := by decide

/-- 95_test_vectors.md DV13: " 5405" parses and does not verify. -/
theorem test_chkVerify_leading_space :
    nextIs (fun t => readReg t .verify == 0x151D000D)
      (exec .chkVerify { locked with rx := { locked.rx with chk := [0x20, 0x35, 0x34, 0x30, 0x35] } }) = true := by decide

/-- 95_test_vectors.md section 6, RESP_CAP 4 and "OK" CR LF "X": the full buffer with a byte available ends the drain. -/
theorem test_sendCommand_overflow :
    let s := { waiting .drain false 150 with
      cfg := cfgOf 4 4, rxQueue := [0x58],
      link := { (waiting .drain false 150).link with
        respBuf := okCrLf, resp := { len := 4, ovf := false, valid := false } } }
    (sequencerStep s).seq.ovf = true ∧ (sequencerStep s).rxQueue = [0x58] ∧
      (sequencerStep s).link.modeHigh = true := by decide

/-- 43_link_controller.md R234: RESP_STATUS 0x00020004 and RESP_DATA word 0 0x0A0D4B4F. -/
theorem test_sendCommand_response :
    let t := returnSendCommand (drained .sendCommand .direct 0 0 okCrLf false 10)
    readReg t .respStatus = 0x00020004 ∧ readOffset t 0x4000 = 0x0A0D4B4F ∧ t.busy = false := by decide

/-- 95_test_vectors.md PV1. -/
theorem test_probe_match :
    readReg (returnSendCommand (drained .probe .search 3 0 okCrLf false 10)) .probe = 0x00000303 := by decide

/-- 95_test_vectors.md PV3: exhaustion, INDEX = K. -/
theorem test_probe_exhausted :
    readReg (returnSendCommand (drained .probe .search 7 0 [] false 10)) .probe = 0x00000801 := by decide

/-- 95_test_vectors.md PV12. -/
theorem test_detectSpeed_overflow :
    let t := returnSendCommand (drained .detectSpeed .search 1 0 okCrLf true 10)
    readReg t .probe = 0x00000105 ∧ t.trace = [.emit (.overflow 1)] := by decide

/-- 95_test_vectors.md PV10. -/
theorem test_detectSpeed_found :
    (returnSendCommand (drained .detectSpeed .search 3 0 okCrLf false 10)).trace = [.emit (.found 3)] := by decide

/-- 44_baud_prober.md R255: an acknowledgement does not stop it. -/
theorem test_forceDefault_goes_on :
    let t := returnSendCommand (drained .forceDefault .search 3 0 okCrLf false 10)
    t.seq.i = 4 ∧ t.busy = true := by decide

/-- 43_link_controller.md R220: an empty text has no byte to send, so Wait(SET_LOW_TIME) is followed by Wait(CMD_TIME). -/
theorem test_empty_text :
    let s := { begun .detectSpeed .search 0 with
      cfg := { Config.default with cmdDetect := [] }, seq := { (begun .detectSpeed .search 0).seq with point := .setLow } }
    (sequencerStep s).seq.point = .cmdTime ∧ (sequencerStep s).trace = [] := by decide

/-- 44_baud_prober.md R255, example: "AT+DEFAULT" is what FORCE_DEFAULT sends. -/
theorem test_forceDefault_text :
    runningText (begun .forceDefault .search 0) = [0x41, 0x54, 0x2B, 0x44, 0x45, 0x46, 0x41, 0x55, 0x4C, 0x54] := by decide

/-- R256, example: "AT+B19200" for t = 4. -/
theorem test_setSpeedSafely_text :
    runningText (begun .setSpeedSafely .direct 4) = [0x41, 0x54, 0x2B, 0x42, 0x31, 0x39, 0x32, 0x30, 0x30] := by decide

/-- 95_test_vectors.md PV14: SET_SPEED_SAFELY 4, "OK+B19200" (with settle delays of 0). -/
theorem test_setSpeedSafely_acknowledged :
    let t := returnSendCommand
      (drained .setSpeedSafely .direct 0 4 [0x4F, 0x4B, 0x2B, 0x42, 0x31, 0x39, 0x32, 0x30, 0x30] false 0)
    readReg t .setSpeed = 0x00000403 ∧ t.link.speedIdx = 4 := by decide

/-- 95_test_vectors.md PV15, its last step: found at index 4. -/
theorem test_setSpeedSafely_fallback :
    let t := returnSendCommand (drained .setSpeedSafely .search 4 5 okCrLf false 10)
    readReg t .setSpeed = 0x00000501 ∧ readReg t .probe = 0x00000403 ∧ t.trace = [.emit (.found 4)] := by decide

/-! ## The decoder, the formats and the checksum (95_test_vectors.md sections 2 to 4) -/

/-- W1. -/
theorem test_w1_resynchronise :
    let r := decodeAll 2 false [0x3C, 0x41, 0x42, 0x3C, 0x43, 0x44, 0x3E]
    r.phase = .frameComplete ∧ r.len = 2 ∧ r.buf = [0x43, 0x44] ∧ r.trunc = false := by decide

/-- DV2: the third byte completes the frame, truncated. -/
theorem test_dv2_truncated :
    let r := decodeAll 2 false [0x3C, 0x41, 0x42, 0x43]
    r.phase = .frameComplete ∧ r.buf = [0x41, 0x42] ∧ r.trunc = true := by decide

/-- DV3, up to its delimiter: in checksum mode the excess byte is dropped. -/
theorem test_dv3_dropped :
    let r := decodeAll 2 true [0x3C, 0x41, 0x42, 0x43, 0x2C]
    r.phase = .readingChecksum ∧ r.buf = [0x41, 0x42] ∧ r.trunc = true := by decide

/-- DV6: the sixth checksum byte completes the frame. -/
theorem test_dv6_checksum_overflow :
    let r := decodeAll 2 true [0x3C, 0x2C, 0x31, 0x32, 0x33, 0x34, 0x35, 0x36]
    r.phase = .frameComplete ∧ r.chk = [0x31, 0x32, 0x33, 0x34, 0x35] ∧ r.chkOvf = true := by decide

/-- The largest unsigned number in 12 places. -/
theorem test_uint_max :
    fmtUint 12 0xFFFFFFFF = [0x30, 0x30, 0x34, 0x32, 0x39, 0x34, 0x39, 0x36, 0x37, 0x32, 0x39, 0x35] := by decide

/-- The smallest signed number, in its exact 11 places and cut to 5. -/
theorem test_sint_min :
    formatPayload 11 .sint 0 0x80000000 [] = [0x2D, 0x32, 0x31, 0x34, 0x37, 0x34, 0x38, 0x33, 0x36, 0x34, 0x38] ∧
    formatPayload 5 .sint 0 0x80000000 [] = [0x2D, 0x32, 0x31, 0x34, 0x37] := by decide

/-- -42 in 5 places. -/
theorem test_sint_negative :
    formatPayload 5 .sint 0 0xFFFFFFD6 [] = [0x2D, 0x30, 0x30, 0x34, 0x32] := by decide

/-- "65405", "65536" and " 1 31". -/
theorem test_parse :
    parseChk [0x36, 0x35, 0x34, 0x30, 0x35] 5 = some 65405 ∧ parseChk [0x36, 0x35, 0x35, 0x33, 0x36] 5 = none ∧
    parseChk [0x20, 0x31, 0x20, 0x33, 0x31] 5 = none := by decide

/-- "AB" and its checksum. -/
theorem test_compute : compute [0x41, 0x42] = 65405 ∧ dec5 65405 = [0x36, 0x35, 0x34, 0x30, 0x35] ∧
    dec5 511 = [0x30, 0x30, 0x35, 0x31, 0x31] ∧ compute [0x01] = 65535 ∧ compute [] = 0 := by decide

/-! ## The register interface and time -/

/-- 95_test_vectors.md section 8: STATUS at 1049, after the settle step, and from 1100 on. -/
theorem test_status_settling : statusWord (settling 49) = 0x00000501 := by decide
theorem test_status_settled : statusWord (sequencerStep (settling 50)) = 0x00000500 := by decide
theorem test_status_ready : statusWord (idle 4 16 false) = 0x00000504 := by decide

/-- 95_test_vectors.md section 8: with N_CAP 300 writing CTRL = 1 leaves CTRL = 0. -/
theorem test_ctrl_hardwired :
    ctrlWord (writeCtrl 1 { idle 4 16 false with cfg := cfgOf 300 16 }) = 0 := by decide

/-- FMT = 3 leaves FMT unchanged and the rest of the write takes effect (10_state.md R21). -/
theorem test_ctrl_fmt_three : ctrlWord (writeCtrl 7 (writeCtrl 4 (idle 4 16 false))) = 5 := by decide

/-- A window word is little-endian, and only lanes below the capacity are stored (20_memory.md R62). -/
theorem test_window_lanes :
    nextIs (fun t => t.txBuf == [0x44, 0x33] && readOffset t 0x1000 == 0x00003344)
      (hostWrite 4 0x1000 0x11223344 (idle 2 16 false)) = true := by decide

/-- 95_test_vectors.md section 4: the field "65405" in RX_CHK_LO and RX_CHK_HI. -/
theorem test_checksum_registers :
    readReg locked .rxChkLo = 0x30343536 ∧ readReg locked .rxChkHi = 0x00000035 := by decide

/-- 95_test_vectors.md W4 and section 6. -/
theorem test_elapsed : elapsed 0x00000010 0xFFFFFF00 = 272 ∧ elapsed 0x00000024 0xFFFFFFC0 = 100 := by decide

/-- The reset values the spec gives (95_test_vectors.md section 8, at clock reading 1000). -/
theorem test_reset_values :
    let s := State.powerOn Config.default 1000 0
    statusWord s = 0x00000501 ∧ readReg s .cmdStatus = 0 ∧ readReg s .lastSend = 1000 ∧
    readReg s .speedValue = 0x00002580 ∧ readReg s .rxChkLo = 0 := by decide

/-! ## Witnesses: for each statement with hypotheses, states and operands that meet all of them -/

theorem idle_inv : (idle 4 16 false).Inv := by constructor <;> first | decide | (constructor <;> decide)
theorem locked_inv : locked.Inv := by constructor <;> first | decide | (constructor <;> decide)
theorem settling_inv : (settling 10).Inv := by constructor <;> first | decide | (constructor <;> decide)
theorem waiting_low_inv : (waiting .setLow false 10).Inv := by constructor <;> first | decide | (constructor <;> decide)
theorem waiting_high_inv : (waiting .setHigh true 50).Inv := by constructor <;> first | decide | (constructor <;> decide)
theorem onEvent_inv {s : State} (e : Event) (h : s.Inv) : (onEvent e s).Inv := by
  obtain ⟨h1, h2, h3, h4, h5, h6, h7, h8, h9, h10, h11, h12, h13, ⟨q1, q2, q3, q4, q5, q6, q7, q8, q9, q10, q11, q12, q13⟩⟩ := h
  exact ⟨h1, h2, h3, h4, h5, h6, h7, h8, h9, h10, h11, h12, h13, ⟨q1, q2, q3, q4, q5, q6, q7, q8, q9, q10, q11, q12, q13⟩⟩

/-- A DETECT_SPEED held at a wait of its loop at index 2, begun `ms` ago. -/
def probing (p : Point) (ms : Word) : State :=
  { idle 4 16 false with
    busy := true, cmdActive := true, now := 1200 + ms,
    seq := { (idle 4 16 false).seq with op := some .detectSpeed, stage := .search, point := p, i := 2, t0 := 1200 } }

theorem probing_pre_inv : (probing .reconfPre 9).Inv := by constructor <;> first | decide | (constructor <;> decide)
theorem probing_post_inv : (probing .reconfPost 9).Inv := by constructor <;> first | decide | (constructor <;> decide)
theorem waiting_cmd_inv : (waiting .cmdTime false 99).Inv := by constructor <;> first | decide | (constructor <;> decide)
theorem waiting_high_held_inv : (waiting .setHigh true 49).Inv := by
  constructor <;> first | decide | (constructor <;> decide)

/-- FirstFailingCheckGivesTheCause: one word and state for each cause, each check failing behind the ones before it. -/
theorem witness_causes :
    (∃ t, issueCommand 0x000001FF (settling 10) = .next t ∧ (t.cmdStatus.cause == .illegalOpcode) = true) ∧
    (∃ t, issueCommand 0x00000101 (settling 10) = .next t ∧ (t.cmdStatus.cause == .reservedBits) = true) ∧
    (∃ t, issueCommand 0x00000814 (settling 10) = .next t ∧ (t.cmdStatus.cause == .busy) = true) ∧
    (∃ t, issueCommand 0x00000814 (idle 4 16 false) = .next t ∧ (t.cmdStatus.cause == .badOperand) = true) ∧
    (∃ t, issueCommand 0x00000001 { idle 4 16 false with now := 1099 } = .next t ∧
      (t.cmdStatus.cause == .txNotReady) = true) ∧
    (∃ t, issueCommand 0x00000004 (settling 10) = .next t ∧ (t.cmdStatus.cause == .noFrame) = true) ∧
    (∃ t, issueCommand 0x00000714 (idle 4 16 false) = .next t ∧ (t.cmdStatus.cause == .accepted) = true) := by
  and_intros <;> exact of_nextIs (by decide)

/-- RejectionChangesOnlyStatus. -/
theorem witness_rejection :
    ∃ t, issueCommand 0x00000013 (settling 10) = .next t ∧ t.cmdStatus.cause ≠ .accepted := by
  obtain ⟨t, h, hc⟩ := of_nextIs (p := fun t => t.cmdStatus.cause != .accepted)
    (o := issueCommand 0x00000013 (settling 10)) (by decide)
  exact ⟨t, h, by simpa using hc⟩

/-- CommandsLeaveTheRest: every command, the operand at both ends of its range. -/
theorem witness_every_command :
    ∀ i ∈ [Instr.nop, .txSend, .rxRearm, .chkCompute, .chkVerify, .sendCommand, .probe, .detectSpeed, .forceDefault,
      .setSpeedSafely 0, .setSpeedSafely 255], nextIs (fun _ => true) (exec i (idle 4 16 false)) = true := by decide

/-- NopWritesOnlyItsStatus: ARG nonzero, and RSV nonzero. -/
theorem witness_nop_words :
    (opcOf 0x00000100 = 0x00 ∧ (0x00000100 : Word) ≠ 0) ∧ opcOf 0x80000000 = 0x00 ∧ (0x80000000 : Word) ≠ 0 := by decide

/-- ChkVerifyJudgesTheFrame: no frame; a frame with the mode off; one whose field parses; one whose field is short. -/
theorem witness_chkVerify :
    (idle 4 16 false).rx.phase ≠ .frameComplete ∧
    (locked.rx.phase = .frameComplete ∧ chkEnabled { locked with ctrl := { locked.ctrl with chkEn := false } } = false) ∧
    (chkEnabled locked = true ∧ parseChk locked.rx.chk locked.rx.chkLen = some 65405) ∧
    parseChk locked.rx.chk 4 = none := by decide

/-- TxSendWritesItsFrame: each rejection, and an acceptance with a frame of some length. -/
theorem witness_txSend :
    (settling 10).busy = true ∧
    ((idle 4 16 false).busy = false ∧ txReady { idle 4 16 false with now := 1099 } = false) ∧
    txReady { idle 4 16 false with now := 1100 } = true ∧ (txFrame (idle 4 16 true)).length = 12 := by decide

/-- CommandModeCommandsAccepted: text lengths 1 and CMD_CAP, targets 0 and K-1. -/
theorem witness_commandMode :
    (idle 4 16 false).busy = false ∧
    (1 ≤ (1 : Half).toNat ∧ (1 : Half).toNat ≤ (idle 4 16 false).cfg.cmdCap) ∧
    (16 : Half).toNat ≤ (idle 4 16 false).cfg.cmdCap ∧
    (0 : Byte).toNat < (idle 4 16 false).cfg.k ∧ (7 : Byte).toNat < (idle 4 16 false).cfg.k := by decide

/-- The idle block with four response bytes waiting and the schedule of a whole SEND_COMMAND of "AT". -/
def scheduled : State :=
  { idle 4 16 false with
    rxQueue := okCrLf,
    pending :=
      [.hostWrite 4 0x00C 0x00000010, .sequencerStep, .clockAdvance 40, .sequencerStep, .transportAccept,
       .transportAccept, .clockAdvance 100, .sequencerStep, .sequencerStep, .sequencerStep, .sequencerStep,
       .sequencerStep, .sequencerStep, .clockAdvance 50, .sequencerStep] }

/-- SendCommandRunsToItsResult. -/
theorem witness_sendCommand_run :
    scheduled.cfg.wf = true ∧ Memory.wf scheduled = true ∧ scheduled.busy = false ∧ 1 ≤ scheduled.cmdLen.toNat ∧
    scheduled.cmdLen.toNat ≤ scheduled.cfg.cmdCap ∧
    scheduled.pending = sendCommandSchedule scheduled :=
  ⟨by decide, by decide, by decide, by decide, by decide, rfl⟩

/-- CmdActiveAndBusyFallTogether: a command write that sets CMD_ACTIVE; the sequencer step that ends it. -/
theorem witness_cmdActive :
    (∃ t, step (onEvent (.hostWrite 4 0x00C 0x00000012) (idle 4 16 false)) = .next t ∧ t.cmdActive = true) ∧
    (∃ t, step (onEvent .sequencerStep (waiting .setHigh true 50)) = .next t ∧ (!t.cmdActive) = true) ∧
    (∃ t, step (onEvent .decoderStep (waiting .setLow false 10)) = .next t ∧ t.cmdActive = true) := by
  and_intros <;> exact of_nextIs (by decide)

theorem fallback_inv : (drained .setSpeedSafely .search 7 5 [] false 10).Inv := by
  constructor <;> first | decide | (constructor <;> decide)

/-- ProbeLoopPrecedence and DetectSpeedEmitsItsOutcome: the start; the overflow, match, next and exhaustion cases, at both
ends of the table, in the three commands that run ProbeLoop. -/
theorem witness_probeLoop :
    (∀ op ∈ [Op.probe, .detectSpeed], (begun op .search 0).seq.op = some op ∧ (begun op .search 0).seq.point = .start) ∧
    (∀ op ∈ [Op.probe, .detectSpeed, .setSpeedSafely], ∀ i ∈ [0, 7], ∀ o ∈ [true, false], ∀ r ∈ [okCrLf, []],
      let s := drained op .search i 0 r o 10
      s.seq.op = some op ∧ s.seq.stage = .search ∧ s.seq.i < s.cfg.k ∧ s.cfg.k ≤ 255 ∧ s.seq.ovf = o) ∧
    (response (drained .probe .search 0 0 okCrLf false 10)).take 2 = [0x4F, 0x4B] ∧
    (response (drained .probe .search 0 0 [] false 10)).take 2 ≠ [0x4F, 0x4B] ∧
    (drained .probe .search 0 0 [] false 10).seq.i + 1 < (drained .probe .search 0 0 [] false 10).cfg.k ∧
    (drained .probe .search 7 0 [] false 10).seq.i + 1 = (drained .probe .search 7 0 [] false 10).cfg.k := by decide

/-- ForceDefaultTriesEverySpeed: the start, index 6, which goes on, and 7, which ends. -/
theorem witness_forceDefault :
    let s := drained .forceDefault .search 6 0 okCrLf true 10
    let u := drained .forceDefault .search 7 0 okCrLf true 10
    ((begun .forceDefault .search 0).seq.op = some .forceDefault ∧ (begun .forceDefault .search 0).seq.stage = .search ∧
      (begun .forceDefault .search 0).seq.point = .start) ∧
    (s.seq.op = some .forceDefault ∧ s.seq.stage = .search ∧ s.seq.i + 1 < s.cfg.k) ∧
    u.seq.op = some .forceDefault ∧ u.seq.stage = .search ∧ u.cfg.k ≤ u.seq.i + 1 := by decide

/-- SetSpeedFollowsOrFallsBack: the start; acknowledged with and without settle delays; not acknowledged, and overflowed; in
the fallback, whose invariant stands above. -/
theorem witness_setSpeed :
    ((begun .setSpeedSafely .direct 4).seq.op = some .setSpeedSafely ∧ (begun .setSpeedSafely .direct 4).seq.point = .start) ∧
    (∀ d ∈ [0, 10],
      let s := drained .setSpeedSafely .direct 0 4 okCrLf false (BitVec.ofNat 32 d)
      s.seq.op = some .setSpeedSafely ∧ s.seq.stage = .direct ∧ s.seq.ovf = false ∧
      (response s).take 2 = [0x4F, 0x4B] ∧ s.cfg.tReconfPre.toNat = d ∧ s.cfg.tReconfPost.toNat = d) ∧
    (response (drained .setSpeedSafely .direct 0 4 [0x4F] false 10)).take 2 ≠ [0x4F, 0x4B] ∧
    (drained .setSpeedSafely .direct 0 4 okCrLf true 10).seq.ovf = true ∧
    (drained .setSpeedSafely .search 7 5 [] false 10).seq.stage = .search ∧
    (drained .setSpeedSafely .search 7 5 [] false 10).seq.i + 1 = (drained .setSpeedSafely .search 7 5 [] false 10).cfg.k := by
  decide

/-- SendCommandReturnsItsResponse: a state of each of the five commands with the text it sends; the wait's end; the start of
SEND_COMMAND. -/
theorem witness_sendCommand_texts :
    (∀ p ∈ [(Op.sendCommand, Stage.direct), (.probe, .search), (.detectSpeed, .search), (.forceDefault, .search),
        (.setSpeedSafely, .direct), (.setSpeedSafely, .search)],
      inCommandMode (begun p.1 p.2 4) = true ∧ Memory.wf (begun p.1 p.2 4) = true ∧ (begun p.1 p.2 4).seq.op = some p.1 ∧
      (begun p.1 p.2 4).seq.stage = p.2) ∧
    ((waiting .setHigh true 50).seq.op ≠ none ∧ (waiting .setHigh true 50).seq.point = .setHigh ∧
      (waiting .setHigh true 50).cfg.setHighTime.toNat ≤
        (elapsed (waiting .setHigh true 50).now (waiting .setHigh true 50).seq.t0).toNat) ∧
    (begun .sendCommand .direct 0).seq.point = .start := by decide

/-- TxReadyFallsOnlyByASend: a TX_SEND takes it from 1 to 0, with the clock sampled. -/
theorem witness_txReady_falls :
    ClockSampled (onEvent (.hostWrite 4 0x00C 0x00000001) (idle 4 16 false)) (.hostWrite 4 0x00C 0x00000001) ∧
    txReady (onEvent (.hostWrite 4 0x00C 0x00000001) (idle 4 16 false)) = true ∧
    ∃ t, step (onEvent (.hostWrite 4 0x00C 0x00000001) (idle 4 16 false)) = .next t ∧ (!txReady t) = true := by
  refine ⟨fun _ h => (nomatch h), by decide, of_nextIs (by decide)⟩

/-- The clock premise is met by a clock step too. -/
theorem witness_clock_sampled : ClockSampled (waiting .setLow false 10) (.clockAdvance 1000) := by
  intro ms h
  cases h
  exact ⟨by decide, fun _ => by decide⟩

/-- WaitsCannotBeShortened: each of the six waits, 1 ms before its end; their invariants stand above. -/
theorem witness_waits :
    ∀ p ∈ [(settling 49, (50 : Word)), (probing .reconfPre 9, 10), (probing .reconfPost 9, 10),
        (waiting .setLow false 39, 40), (waiting .cmdTime false 99, 100), (waiting .setHigh true 49, 50)],
      p.1.seq.op ≠ none ∧ waitLength p.1 = some p.2 ∧ (elapsed p.1.now p.1.seq.t0).toNat < p.2.toNat ∧
      nextIs (fun t => t.busy) (step (onEvent .sequencerStep p.1)) = true := by decide

/-- HostWritesChangeNoRunningCommand. -/
theorem witness_host_write_running :
    (0x010 : Offset) ≠ 0x00C ∧ ∃ t, hostWrite 4 0x010 5 (waiting .setLow false 10) = .next t ∧ t.busy = true :=
  ⟨by decide, of_nextIs (by decide)⟩

/-- DecoderStepTakesOneByte: CMD_ACTIVE set; no byte; a byte. -/
theorem witness_decoderStep :
    (waiting .setLow false 10).cmdActive = true ∧ (idle 4 16 false).rxQueue = [] ∧
    (idle 4 16 false).cmdActive = false ∧ { idle 4 16 false with rxQueue := okCrLf }.rxQueue = 0x4F :: [0x4B, 0x0D, 0x0A] := by
  decide

/-- DecoderCellsBeforeChecksum: each cell's state and byte, with the payload buffer one short of full and full. -/
theorem witness_cells_before :
    let c := cfgOf 2 16
    c.wf = true ∧ (decodeAll 2 true []).phase = .idle ∧ (0x3E : Byte) ≠ c.startMark ∧ (0x3C : Byte) = c.startMark ∧
    ((decodeAll 2 true [0x3C, 0x41]).phase = .readingPayload ∧ (decodeAll 2 true [0x3C, 0x41]).len < c.nCap) ∧
    ((decodeAll 2 true [0x3C, 0x41, 0x42]).phase = .readingPayload ∧ c.nCap ≤ (decodeAll 2 true [0x3C, 0x41, 0x42]).len) ∧
    ((decodeAll 2 false [0x3C, 0x2C, 0x42]).phase = .readingPayload ∧ (0x2C : Byte) = c.delim) ∧
    (0x3E : Byte) = c.endMark ∧ (0x43 : Byte) ≠ c.startMark ∧ (0x43 : Byte) ≠ c.endMark ∧ (0x43 : Byte) ≠ c.delim := by
  decide

/-- DecoderCellsOfChecksum: four and five bytes held. -/
theorem witness_cells_checksum :
    let r := decodeAll 2 true [0x3C, 0x2C, 0x31, 0x32, 0x33, 0x34]
    let u := decodeAll 2 true [0x3C, 0x2C, 0x31, 0x32, 0x33, 0x34, 0x35]
    (cfgOf 2 16).wf = true ∧ (r.phase = .readingChecksum ∧ r.chkLen < 5) ∧ u.phase = .readingChecksum ∧ 5 ≤ u.chkLen := by
  decide

/-- ReceiveLockHolds: the two ways out of the lock. -/
theorem witness_lock :
    locked.rx.phase = .frameComplete ∧
    (∃ t, step (onEvent (.hostWrite 4 0x00C 0x00000002) locked) = .next t ∧ (t.rx.phase != .frameComplete) = true) ∧
    (∃ t, step (onEvent .reset locked) = .next t ∧ (t.rx.phase != .frameComplete) = true) := by
  and_intros
  · decide
  · exact of_nextIs (by decide)
  · exact of_nextIs (by decide)

/-- StartByteResynchronises: the idle decoder, and one in the middle of a checksum field. -/
theorem witness_resynchronise :
    let r := decodeAll 2 true []
    let u := decodeAll 2 true [0x3C, 0x41, 0x2C, 0x31]
    (cfgOf 2 16).wf = true ∧ r.phase ≠ .frameComplete ∧ u.phase ≠ .frameComplete ∧ r.buf.length = 2 ∧ u.buf.length = 2 ∧
    r.chk.length = 5 ∧ u.chk.length = 5 := by decide

/-- EncodedFrameRoundTrips: "AB" in both modes, and "A," with checksum mode off. -/
theorem witness_round_trip :
    (cfgOf 2 16).wf = true ∧ (decodeAll 2 true []).phase = .idle ∧ (decodeAll 2 true []).buf.length = 2 ∧
    (decodeAll 2 true []).chk.length = 5 ∧ Unreserved (cfgOf 2 16) true [0x41, 0x42] ∧
    Unreserved (cfgOf 2 16) false [0x41, 0x2C] := by
  unfold Unreserved; decide

/-- PayloadAndFrameLengths and TextPayloadBytes: the buffer's length, and indices 0 and N_CAP-1. -/
theorem witness_lengths :
    (idle 4 16 true).txBuf.length = (idle 4 16 true).cfg.nCap ∧ chkEnabled (idle 4 16 true) = true ∧
    chkEnabled (idle 4 16 false) = false ∧ 0 < (idle 4 16 true).cfg.nCap ∧ 3 < (idle 4 16 true).cfg.nCap := by decide

/-- NumericPayloadsReadBack: a number that fits, one exactly as long as N_CAP, one longer, and the same for negative ones. -/
theorem witness_numeric :
    (dec 42).length ≤ 5 ∧ 5 ≤ (dec 12345).length ∧ 3 ≤ (dec 123456).length ∧
    ((-42 : Int) < 0 ∧ (dec (-(-42 : Int)).toNat).length < 5) ∧ 1 ≤ (dec (-(-5 : Int)).toNat).length := by decide

/-- ChecksumLaws, its byte change, and ParseChkAccepts, its field. -/
theorem witness_checksum :
    (0 < [(0x41 : Byte), 0x42].length ∧ 1 < [(0x41 : Byte), 0x42].length ∧ (0x43 : Byte) ≠ [(0x41 : Byte), 0x42].getD 0 0) ∧
    [(0x20 : Byte), 0x20, 0x31, 0x33, 0x31].length = 5 ∧ parseChk [0x20, 0x20, 0x31, 0x33, 0x31] 5 = some 131 := by decide

/-- CtrlWriteAnyReadLegal: FMT 3, and 2. -/
theorem witness_ctrl : (0x6 : Word).extractLsb' 1 2 = 3 ∧ (0x4 : Word).extractLsb' 1 2 ≠ 3 := by decide

/-- WindowWriteStoresItsLanes, ReceivedBytesAreMasked and, with the invariants above, ResultRegistersRead: words 0 and 1023 of a block whose buffers have their lengths. -/
theorem witness_windows : (0 < 1024 ∧ 1023 < 1024) ∧ Memory.wf (idle 4 16 false) = true ∧ Memory.wf locked = true := by decide

/-- ConstantRegistersRead: entries 0, 7, 8 and 255 of the table, and a well-formed configuration. -/
theorem witness_constants : 255 < 256 ∧ 8 < 256 ∧ (idle 4 16 false).cfg.wf = true ∧ (idle 4 16 false).cfg.k = 8 := by decide

/-- The offset with that value, as a number. -/
def offset (a : Nat) : Nat := (BitVec.ofNat 16 a : Offset).toNat

/-- IgnoredAccessesChangeNothing: an address of each clause, at the edges of its range (N_CAP 4, CMD_CAP 16, RESP_CAP 16,
K 8). -/
theorem witness_ignored :
    (∀ a ∈ [0x004, 0x05C, 0x060, 0x0FFC, 0x2000, 0x2FFC, 0x4000, 0xFFFC],
      offset a % 4 = 0 ∧ offset a ∉ [0x000, 0x00C, 0x010, 0x014, 0x030] ∧
      ¬ (0x1000 ≤ offset a ∧ offset a < 0x2000) ∧ ¬ (0x3000 ≤ offset a ∧ offset a < 0x4000)) ∧
    (∀ a ∈ [0x1004, 0x1FFC], 0x1000 ≤ offset a ∧ offset a < 0x2000 ∧ 4 ≤ offset a - 0x1000) ∧
    (∀ a ∈ [0x3010, 0x3FFC], 0x3000 ≤ offset a ∧ offset a < 0x4000 ∧ 16 ≤ offset a - 0x3000) ∧
    (∀ a ∈ [0x2004, 0x2FFC], 0x2000 ≤ offset a ∧ offset a < 0x3000 ∧ 4 ≤ offset a - 0x2000) ∧
    (∀ a ∈ [0x4010, 0x4FFC], 0x4000 ≤ offset a ∧ offset a < 0x5000 ∧ 16 ≤ offset a - 0x4000) ∧
    (∀ a ∈ [0x0820, 0x0BFC], 0x0800 ≤ offset a ∧ offset a < 0x0C00 ∧ 32 ≤ offset a - 0x0800) := by decide

/-- OnlyAlignedWordAccesses and StepsStopOnlyAsTheSpecSays: the refused forms, and an admitted one. -/
theorem witness_accesses :
    (∀ p ∈ [(1, (0x000 : Offset)), (2, 0x000), (8, 0x000), (4, 0x001), (4, 0x002), (4, 0xFFFF)],
      ¬ (p.1 = 4 ∧ p.2.toNat % 4 = 0) ∧
      refusedAs .badAccess (step (onEvent (.hostRead p.1 p.2) (idle 4 16 false))) = true) ∧
    (4 = 4 ∧ (0xFFFC : Offset).toNat % 4 = 0) ∧ { idle 4 16 false with cfg := { Config.default with nCap := 0 } }.cfg.wf = false := by
  decide

/-- CmdStatusIsTheLastCommandWrite and ConfigurationNeverChanges: a command write, another step, and a reset. -/
theorem witness_cmdStatus :
    (∃ t, step (onEvent (.hostWrite 4 0x00C 0x000000FF) (idle 4 16 false)) = .next t ∧
      (cmdStatusWord t == 0x0000FF01) = true) ∧
    (¬ IsCmdWrite (.clockAdvance 5) ∧ ∃ t, step (onEvent (.clockAdvance 5) (idle 4 16 false)) = .next t ∧
      (t.now == 1205) = true) ∧
    (∃ t, step (onEvent .reset (idle 4 16 false)) = .next t ∧ (cmdStatusWord t == 0) = true) := by
  refine ⟨of_nextIs (by decide), ⟨fun ⟨_, h⟩ => (nomatch h), of_nextIs (by decide)⟩, of_nextIs (by decide)⟩

/-- OnlyTheDecoderWritesItsState: a decoder step, RX_REARM, CHK_VERIFY and reset do write it. -/
theorem witness_decoder_writes :
    (∀ e ∈ [Event.decoderStep], nextIs (fun t => t.rx != { idle 4 16 false with rxQueue := [0x3C] }.rx)
      (step (onEvent e { idle 4 16 false with rxQueue := [0x3C] })) = true) ∧
    (∀ e ∈ [Event.hostWrite 4 0x00C 0x00000002, .hostWrite 4 0x00C 0x00000004],
      nextIs (fun t => t.rx != locked.rx) (step (onEvent e locked)) = true) ∧
    nextIs (fun t => t.rx.phase != locked.rx.phase) (step (onEvent .reset locked)) = true := by decide

/-- OnlyTheHostWritesItsBuffers and ResultsAreFinalWhenIdle: a step of another agent on an idle block. -/
theorem witness_idle_step :
    (idle 4 16 false).busy = false ∧ ¬ IsCmdWrite Event.decoderStep ∧ (∀ n a v, Event.decoderStep ≠ .hostWrite n a v) ∧
    ∃ t, step (onEvent .decoderStep { idle 4 16 false with rxQueue := [0x3C] }) = .next t ∧
      (t.rx.phase == .readingPayload) = true := by
  refine ⟨by decide, fun ⟨_, h⟩ => (nomatch h), fun _ _ _ h => (nomatch h), of_nextIs (by decide)⟩

/-- ResetSettlesThenIdle: 1 ms before the end of the settle phase, and at its end. -/
theorem witness_settle :
    (∀ s ∈ [settling 49, settling 50], s.seq.op = some .resetSettle ∧ s.seq.point = .settle) ∧
    (elapsed (settling 49).now (settling 49).seq.t0).toNat < (settling 49).cfg.setHighTime.toNat ∧
    (settling 50).cfg.setHighTime.toNat ≤ (elapsed (settling 50).now (settling 50).seq.t0).toNat := by decide

/-- StepRunsTheDecodedCommand: a command word, and an event of another agent. -/
theorem witness_decoded_step :
    (onEvent (.hostWrite 4 0x00C 0x00000714) (idle 4 16 false)).cfg.wf = true ∧
    (onEvent (.hostWrite 4 0x00C 0x00000714) (idle 4 16 false)).pending = .hostWrite 4 0x00C 0x00000714 :: [] ∧
    decode 0x00000714 = .run (.setSpeedSafely 7) ∧
    (onEvent (.clockAdvance 5) (idle 4 16 false)).pending = .clockAdvance 5 :: [] := by decide

/-- ChecksumFieldsBeginInChecksumMode: a right record, at a step that enters ReadingChecksum and at one that does not. -/
theorem witness_entry :
    let s := { idle 2 16 true with rx := decodeAll 2 true [0x3C, 0x41], rxQueue := [0x2C, 0x31] }
    EnteredInChecksumMode s false ∧ EnteredInChecksumMode locked true ∧
    (∃ t, step (onEvent .decoderStep s) = .next t ∧ (t.rx.phase == .readingChecksum) = true) ∧
    s.rx.phase ≠ .readingChecksum := by
  refine ⟨fun h => absurd h (by decide), fun _ => rfl, of_nextIs (by decide), by decide⟩

/-- EveryStepKeepsTheInvariant: a state that has it and takes a step. -/
theorem witness_invariant_step :
    (onEvent .sequencerStep (waiting .setHigh true 50)).Inv ∧
    ∃ t, step (onEvent .sequencerStep (waiting .setHigh true 50)) = .next t ∧ (!t.busy) = true :=
  ⟨onEvent_inv _ waiting_high_inv, of_nextIs (by decide)⟩

/-- PortsAlwaysMatchStatus: a state whose status matches its ports, and a step that drives the mode line. -/
theorem witness_ports :
    let s := { waiting .start true 10 with trace := [.setMode true, .reconfigure 9600] }
    PortsMatch s ∧ ∃ t, step (onEvent .sequencerStep s) = .next t ∧ (!t.link.modeHigh) = true :=
  ⟨⟨by decide, by decide⟩, of_nextIs (by decide)⟩

end Sys2Proof.Tests
end

/-! ## The decimal rendering (00_scope.md R7)

`dec` recurses on fuel with an accumulator. The two equations `dec_of_lt` and `dec_of_ge` say what it computes, and
`digitwise_induction` is the induction that goes with them; no proof after them sees the fuel. -/

namespace Sys2Proof.Machine

theorem digitByte_toNat {d : Nat} (h : d < 10) : (digitByte d).toNat = 0x30 + d := by
  rw [digitByte, BitVec.toNat_ofNat]
  omega

/-- Induction along the decimal digits: one digit, or the last digit behind those of `n / 10`. -/
theorem digitwise_induction {P : Nat → Prop} (short : ∀ n, n < 10 → P n) (long : ∀ n, 10 ≤ n → P (n / 10) → P n)
    (n : Nat) : P n := by
  induction n using Nat.strong_induction_on with
  | _ n ih =>
    rcases Nat.lt_or_ge n 10 with h | h
    · exact short n h
    · exact long n h (ih (n / 10) (by omega))

/-- Any fuel above `n` gives the same digits, in front of whatever is there. -/
theorem decInto_eq_dec_append (n : Nat) :
    ∀ (fuel : Nat) (tail : List Byte), n < fuel → decInto fuel n tail = dec n ++ tail := by
  induction n using digitwise_induction with
  | short n h =>
    intro fuel tail hf
    obtain ⟨f, rfl⟩ := Nat.exists_eq_succ_of_ne_zero (Nat.ne_zero_of_lt hf)
    simp [dec, decInto, h]
  | long n h ih =>
    intro fuel tail hf
    obtain ⟨f, rfl⟩ := Nat.exists_eq_succ_of_ne_zero (Nat.ne_zero_of_lt hf)
    have hn : ¬ n < 10 := by omega
    simp [dec, decInto, hn, ih f _ (by omega), ih n _ (by omega)]

theorem dec_of_lt {n : Nat} (h : n < 10) : dec n = [digitByte n] := by
  simp [dec, decInto, h]

theorem dec_of_ge {n : Nat} (h : 10 ≤ n) : dec n = dec (n / 10) ++ [digitByte (n % 10)] := by
  rw [← decInto_eq_dec_append (n / 10) n _ (by omega), dec, decInto, if_neg (by omega)]

theorem dec_digits (n : Nat) : ∀ b ∈ dec n, 0x30 ≤ b.toNat ∧ b.toNat ≤ 0x39 := by
  have digit {d : Nat} (h : d < 10) : 0x30 ≤ (digitByte d).toNat ∧ (digitByte d).toNat ≤ 0x39 := by
    rw [digitByte_toNat h]
    omega
  induction n using digitwise_induction with
  | short n h => simpa [dec_of_lt h] using digit h
  | long n h ih =>
    rw [dec_of_ge h, List.forall_mem_append]
    exact ⟨ih, by simpa using digit (Nat.mod_lt n (by omega))⟩

/-- Reading a digit string, most significant digit first, gives the number back. -/
theorem foldl_dec (n : Nat) : (dec n).foldl (fun a b => 10 * a + (b.toNat - 0x30)) 0 = n := by
  induction n using digitwise_induction with
  | short n h => simp [dec_of_lt h, digitByte_toNat h]
  | long n h ih =>
    have hd : (digitByte (n % 10)).toNat = 0x30 + n % 10 := digitByte_toNat (Nat.mod_lt n (by omega))
    rw [dec_of_ge h, List.foldl_append, ih, List.foldl_cons, List.foldl_nil, hd]
    omega

/-- The first digit of a number that is not 0 is not 0. -/
theorem exists_dec_eq_cons {n : Nat} (h0 : n ≠ 0) : ∃ d ds, dec n = digitByte d :: ds ∧ 1 ≤ d ∧ d < 10 := by
  induction n using digitwise_induction with
  | short n h => exact ⟨n, [], dec_of_lt h, Nat.pos_of_ne_zero h0, h⟩
  | long n h ih =>
    obtain ⟨d, ds, he, hd⟩ := ih (by omega)
    exact ⟨d, ds ++ [digitByte (n % 10)], by rw [dec_of_ge h, he, List.cons_append], hd⟩

theorem dec_head?_ne_zero {n : Nat} (h0 : n ≠ 0) : (dec n).head? ≠ some 0x30 := by
  obtain ⟨d, ds, he, hd, hd10⟩ := exists_dec_eq_cons h0
  intro h
  rw [he, List.head?_cons, Option.some.injEq] at h
  have hv : 0x30 + d = 0x30 := (digitByte_toNat hd10).symm.trans (congrArg BitVec.toNat h)
  omega

/-- Settles O32, from the three facts about `dec`, each by induction along the digits. -/
theorem decIsTheDecimal : Obligations.DecIsTheDecimal := by
  intro n
  exact ⟨dec_digits n, foldl_dec n, dec_head?_ne_zero, dec_of_lt (by decide)⟩

end Sys2Proof.Machine

/-! ## What the sequencer leaves unchanged (10_state.md R47, R48; 43_link_controller.md; 44_baud_prober.md)

The sequencer and the transport's acceptance write BUSY, CMD_ACTIVE, the link state, PROBE, SETSPEED, the sequencer's own
state, the receive queue and the port history, and nothing else. `unsequenced` blanks exactly those fields, so one
equation an operation is its whole frame, and frames compose by rewriting. -/

namespace Sys2Proof.Machine

/-- The state with every field that a sequencer step may write set to its value in `State.reset`. -/
def State.unsequenced (s : State) : State :=
  { s with
    busy := State.reset.busy, cmdActive := State.reset.cmdActive, link := State.reset.link, probe := State.reset.probe,
    setSpeed := State.reset.setSpeed, seq := State.reset.seq, rxQueue := State.reset.rxQueue,
    trace := State.reset.trace }

theorem cfg_eq_of_unsequenced_eq {s t : State} (h : t.unsequenced = s.unsequenced) : t.cfg = s.cfg :=
  (congrArg State.cfg h : t.unsequenced.cfg = s.unsequenced.cfg)

/-- The operations the sequencer's pseudocode is written in. -/
@[simp] theorem operations_unsequenced (s : State) :
    (∀ b, (sendByte b s).unsequenced = s.unsequenced) ∧ (∀ h, (setMode h s).unsequenced = s.unsequenced) ∧
    (∀ i, (reconfigureTo i s).unsequenced = s.unsequenced) ∧ (∀ d, (emit d s).unsequenced = s.unsequenced) ∧
    (endTxSend s).unsequenced = s.unsequenced ∧ (endCommandMode s).unsequenced = s.unsequenced ∧
    (endSettle s).unsequenced = s.unsequenced ∧ (∀ p, (holdAt p s).unsequenced = s.unsequenced) ∧
    (startText s).unsequenced = s.unsequenced ∧ (nextByte s).unsequenced = s.unsequenced ∧
    (∀ p, (startWait p s).unsequenced = s.unsequenced) ∧ (∀ i, (setIndex i s).unsequenced = s.unsequenced) ∧
    (∀ g, (setStage g s).unsequenced = s.unsequenced) ∧ (∀ o, (setOvf o s).unsequenced = s.unsequenced) ∧
    (∀ a, (setAck a s).unsequenced = s.unsequenced) ∧ (clearResponse s).unsequenced = s.unsequenced ∧
    (∀ b q, (storeResponse b q s).unsequenced = s.unsequenced) ∧ (publishResponse s).unsequenced = s.unsequenced ∧
    (∀ p, (setProbe p s).unsequenced = s.unsequenced) ∧ (invalidateProbe s).unsequenced = s.unsequenced ∧
    (publishSetSpeed s).unsequenced = s.unsequenced := by
  and_intros <;> intros <;> rfl

section Waits

variable {after : State → State} (hafter : ∀ u, (after u).unsequenced = u.unsequenced)
include hafter

/-- Reaching a wait changes nothing outside the sequencer, if what follows the wait does not. -/
theorem beginWait_unsequenced (p : Point) (t : Word) (s : State) :
    (beginWait p t after s).unsequenced = s.unsequenced := by
  rcases beginWait_cases p t after s with ⟨_, h⟩ | ⟨_, h⟩ <;> simp [h, hafter]

theorem resumeWait_unsequenced (t : Word) (s : State) : (resumeWait t after s).unsequenced = s.unsequenced := by
  rcases resumeWait_cases t after s with ⟨_, h⟩ | ⟨_, h⟩ <;> simp [h, hafter]

end Waits

@[simp] theorem enterCmdTime_unsequenced (s : State) : (enterCmdTime s).unsequenced = s.unsequenced :=
  beginWait_unsequenced (by simp) _ _ s

@[simp] theorem enterText_unsequenced (s : State) : (enterText s).unsequenced = s.unsequenced := by
  unfold enterText
  split <;> simp

@[simp] theorem beginSendCommand_unsequenced (s : State) : (beginSendCommand s).unsequenced = s.unsequenced := by
  simp [beginSendCommand, beginWait_unsequenced enterText_unsequenced]

@[simp] theorem endSetSpeed_unsequenced (s : State) : (endSetSpeed s).unsequenced = s.unsequenced := by
  simp [endSetSpeed]

@[simp] theorem afterReconf_unsequenced (s : State) : (afterReconf s).unsequenced = s.unsequenced := by
  unfold afterReconf
  split <;> simp

@[simp] theorem switchSpeed_unsequenced (s : State) : (switchSpeed s).unsequenced = s.unsequenced := by
  simp [switchSpeed, beginWait_unsequenced afterReconf_unsequenced]

@[simp] theorem beginReconf_unsequenced (s : State) : (beginReconf s).unsequenced = s.unsequenced :=
  beginWait_unsequenced switchSpeed_unsequenced _ _ s

@[simp] theorem beginProbeLoop_unsequenced (s : State) : (beginProbeLoop s).unsequenced = s.unsequenced := by
  simp [beginProbeLoop]

@[simp] theorem afterProbeLoop_unsequenced (s : State) : (afterProbeLoop s).unsequenced = s.unsequenced := by
  unfold afterProbeLoop
  split <;> simp

@[simp] theorem probeResult_unsequenced (s : State) : (probeResult s).unsequenced = s.unsequenced := by
  unfold probeResult
  split_ifs <;> simp

@[simp] theorem forceDefaultNext_unsequenced (s : State) : (forceDefaultNext s).unsequenced = s.unsequenced := by
  unfold forceDefaultNext
  split <;> simp

@[simp] theorem setSpeedNext_unsequenced (s : State) : (setSpeedNext s).unsequenced = s.unsequenced := by
  unfold setSpeedNext
  dsimp only
  split <;> simp

@[simp] theorem afterSendCommand_unsequenced (s : State) : (afterSendCommand s).unsequenced = s.unsequenced := by
  unfold afterSendCommand
  repeat' split
  all_goals simp

@[simp] theorem returnSendCommand_unsequenced (s : State) : (returnSendCommand s).unsequenced = s.unsequenced := by
  simp [returnSendCommand]

@[simp] theorem endDrain_unsequenced (o : Bool) (s : State) : (endDrain o s).unsequenced = s.unsequenced := by
  simp [endDrain, beginWait_unsequenced returnSendCommand_unsequenced]

@[simp] theorem drainStep_unsequenced (s : State) : (drainStep s).unsequenced = s.unsequenced := by
  rcases drainStep_cases s with ⟨_, h⟩ | ⟨b, q, _, _, h⟩ | ⟨b, q, _, _, h⟩ <;> simp [h]

@[simp] theorem startCommand_unsequenced (s : State) : (startCommand s).unsequenced = s.unsequenced := by
  unfold startCommand
  split <;> simp

@[simp] theorem sequencerAdvance_unsequenced (s : State) : (sequencerAdvance s).unsequenced = s.unsequenced := by
  unfold sequencerAdvance
  cases s.seq.point with
  | start => exact startCommand_unsequenced s
  | settle => exact resumeWait_unsequenced (by simp) _ s
  | txFrame => rfl
  | reconfPre => exact resumeWait_unsequenced switchSpeed_unsequenced _ s
  | reconfPost => exact resumeWait_unsequenced afterReconf_unsequenced _ s
  | setLow => exact resumeWait_unsequenced enterText_unsequenced _ s
  | txText => rfl
  | cmdTime => exact resumeWait_unsequenced (by simp) _ s
  | drain => exact drainStep_unsequenced s
  | setHigh => exact resumeWait_unsequenced returnSendCommand_unsequenced _ s

@[simp] theorem sequencerStep_unsequenced (s : State) : (sequencerStep s).unsequenced = s.unsequenced := by
  unfold sequencerStep
  split <;> simp

@[simp] theorem afterFrameByte_unsequenced (s : State) : (afterFrameByte s).unsequenced = s.unsequenced := by
  unfold afterFrameByte
  split <;> simp

@[simp] theorem afterTextByte_unsequenced (s : State) : (afterTextByte s).unsequenced = s.unsequenced := by
  unfold afterTextByte
  split <;> simp

@[simp] theorem transportAccept_unsequenced (s : State) : (transportAccept s).unsequenced = s.unsequenced := by
  rcases transportAccept_cases s with ⟨_, h⟩ | ⟨b, _, _, h⟩ | ⟨b, _, _, h⟩ <;> simp [h]

end Sys2Proof.Machine

/-! ## No step writes the configuration (00_scope.md R5) -/

namespace Sys2Proof.Machine

theorem reject_cfg {c : Cause} {o : Byte} {s t : State} (h : reject c o s = .next t) : t.cfg = s.cfg := by
  cases h
  rfl

theorem exec_cfg (i : Instr) {s t : State} (h : exec i s = .next t) : t.cfg = s.cfg := by
  cases i with
  | nop | rxRearm | chkCompute => cases h; rfl
  | txSend =>
    rcases execTxSend_cases s with ⟨_, he⟩ | ⟨_, _, he⟩ | ⟨_, _, he⟩ <;> cases he.symm.trans h <;> rfl
  | chkVerify => rcases execChkVerify_cases s with ⟨_, he⟩ | ⟨_, he⟩ <;> cases he.symm.trans h <;> rfl
  | sendCommand =>
    rcases execSendCommand_cases s with ⟨_, he⟩ | ⟨_, _, he⟩ | ⟨_, _, he⟩ <;> cases he.symm.trans h <;> rfl
  | probe =>
    rcases execProbe_cases s with ⟨_, he⟩ | ⟨_, _, he⟩ | ⟨_, _, he⟩ <;> cases he.symm.trans h <;> rfl
  | detectSpeed => rcases execDetectSpeed_cases s with ⟨_, he⟩ | ⟨_, he⟩ <;> cases he.symm.trans h <;> rfl
  | forceDefault => rcases execForceDefault_cases s with ⟨_, he⟩ | ⟨_, he⟩ <;> cases he.symm.trans h <;> rfl
  | setSpeedSafely u =>
    rcases execSetSpeedSafely_cases u s with ⟨_, he⟩ | ⟨_, _, he⟩ | ⟨_, _, he⟩ <;> cases he.symm.trans h <;> rfl

theorem issueCommand_cfg {w : Word} {s t : State} (h : issueCommand w s = .next t) : t.cfg = s.cfg := by
  unfold issueCommand at h
  split at h
  · exact reject_cfg h
  · exact reject_cfg h
  · exact exec_cfg _ h

theorem writeReg_cfg (r : Reg) {v : Word} {s t : State} (h : writeReg r v s = .next t) : t.cfg = s.cfg := by
  cases r
  case cmd => exact issueCommand_cfg h
  all_goals cases h; rfl

@[simp] theorem writeWindow_cfg (w : Window) (j : Nat) (v : Word) (s : State) : (writeWindow w j v s).cfg = s.cfg := by
  cases w <;> rfl

theorem writeOffset_cfg {a : Offset} {v : Word} {s t : State} (h : writeOffset a v s = .next t) : t.cfg = s.cfg := by
  unfold writeOffset at h
  split at h
  · exact writeReg_cfg _ h
  · cases h
    exact writeWindow_cfg ..
  · cases h
    rfl

theorem hostRead_cfg {n : Nat} {a : Offset} {s t : State} (h : hostRead n a s = .next t) : t.cfg = s.cfg := by
  rcases hostRead_cases n a s with ⟨_, he⟩ | ⟨_, he⟩ <;> cases he.symm.trans h
  rfl

theorem hostWrite_cfg {n : Nat} {a : Offset} {v : Word} {s t : State} (h : hostWrite n a v s = .next t) :
    t.cfg = s.cfg := by
  rcases hostWrite_cases n a v s with ⟨_, he⟩ | ⟨_, he⟩
  · exact writeOffset_cfg (he.symm.trans h)
  · cases he.symm.trans h

@[simp] theorem decoderStep_cfg (s : State) : (decoderStep s).cfg = s.cfg := by
  unfold decoderStep
  split
  · rfl
  · split <;> rfl

@[simp] theorem takeEvent_cfg (s : State) : (takeEvent s).cfg = s.cfg := by
  unfold takeEvent
  split <;> rfl

theorem perform_cfg (e : Event) {s t : State} (h : perform e s = .next t) : t.cfg = s.cfg := by
  cases e with
  | hostRead n a => exact hostRead_cfg h
  | hostWrite n a v => exact hostWrite_cfg h
  | decoderStep => cases h; exact decoderStep_cfg s
  | sequencerStep => cases h; exact cfg_eq_of_unsequenced_eq (sequencerStep_unsequenced s)
  | transportAccept => cases h; exact cfg_eq_of_unsequenced_eq (transportAccept_unsequenced s)
  | transportDeliver | transportRequeue | clockAdvance | reset => cases h; rfl

/-- A step that has a next state is its event's step, on a well-formed configuration. -/
theorem perform_of_step {s t : State} (h : step s = .next t) :
    s.cfg.wf = true ∧ perform (nextEvent s) (takeEvent s) = .next t := by
  unfold step at h
  split at h
  · next hw => exact ⟨hw, h⟩
  · cases h

/-- Settles O50: no event's step writes the configuration, and neither does taking the event off the schedule. -/
theorem configurationNeverChanges : Obligations.ConfigurationNeverChanges := by
  intro s t h
  obtain ⟨_, hp⟩ := perform_of_step h
  exact (perform_cfg _ hp).trans (takeEvent_cfg s)

end Sys2Proof.Machine

/-! ## What a host write can do (20_memory.md R61, 60_exceptions.md R300 to R302)

`CommandStep` and `hostWrite_next` invert the host's accesses once; the facts below about who writes what take their cases
from here. -/

namespace Sys2Proof.Machine

/-- What the host step of a command can leave: CMD_STATUS alone (a rejection, or NOP), an immediate command's result, or an
accepted sequencer command. -/
inductive CommandStep (s : State) : Instr → State → Prop where
  | status (i : Instr) (c : Cause) : CommandStep s i (setCmdStatus c i.opcode s)
  | rearmed : CommandStep s .rxRearm { accept 0x02 s with rx := rearm s.rx }
  | computed : CommandStep s .chkCompute { accept 0x03 s with chkValue := compute (txPayload s) }
  | verified (hp : s.rx.phase = .frameComplete) :
    CommandStep s .chkVerify { accept 0x04 s with rx := { s.rx with verify := verdict (chkEnabled s) s.rx } }
  | txSend (hb : s.busy = false) : CommandStep s .txSend (startTxSend 0x01 (txFrame s) s)
  | sendCommand (hb : s.busy = false) (hl : badCommandLength s = false) :
    CommandStep s .sendCommand (startCommandMode .sendCommand 0x10 .direct { bytes := commandText s, arg := 0 } s)
  | probe (hb : s.busy = false) (hl : badCommandLength s = false) :
    CommandStep s .probe (startCommandMode .probe 0x11 .search { bytes := commandText s, arg := 0 } s)
  | detectSpeed (hb : s.busy = false) :
    CommandStep s .detectSpeed (startCommandMode .detectSpeed 0x12 .search { bytes := [], arg := 0 } s)
  | forceDefault (hb : s.busy = false) :
    CommandStep s .forceDefault (startCommandMode .forceDefault 0x13 .search { bytes := [], arg := 0 } s)
  | setSpeedSafely (u : Byte) (hb : s.busy = false) (hu : u.toNat < s.cfg.k) :
    CommandStep s (.setSpeedSafely u)
      (startCommandMode .setSpeedSafely 0x14 .direct { bytes := [], arg := u }
        { s with setSpeed := { s.setSpeed with valid := false } })

theorem commandStep_of_exec (i : Instr) {s t : State} (h : exec i s = .next t) : CommandStep s i t := by
  cases i with
  | nop => cases h; exact .status .nop .accepted
  | rxRearm => cases h; exact .rearmed
  | chkCompute => cases h; exact .computed
  | txSend =>
    rcases execTxSend_cases s with ⟨_, he⟩ | ⟨_, _, he⟩ | ⟨hb, _, he⟩ <;> cases he.symm.trans h
    · exact .status .txSend .busy
    · exact .status .txSend .txNotReady
    · exact .txSend hb
  | chkVerify =>
    rcases execChkVerify_cases s with ⟨_, he⟩ | ⟨hp, he⟩ <;> cases he.symm.trans h
    · exact .status .chkVerify .noFrame
    · exact .verified hp
  | sendCommand =>
    rcases execSendCommand_cases s with ⟨_, he⟩ | ⟨_, _, he⟩ | ⟨hb, hl, he⟩ <;> cases he.symm.trans h
    · exact .status .sendCommand .busy
    · exact .status .sendCommand .badOperand
    · exact .sendCommand hb hl
  | probe =>
    rcases execProbe_cases s with ⟨_, he⟩ | ⟨_, _, he⟩ | ⟨hb, hl, he⟩ <;> cases he.symm.trans h
    · exact .status .probe .busy
    · exact .status .probe .badOperand
    · exact .probe hb hl
  | detectSpeed =>
    rcases execDetectSpeed_cases s with ⟨_, he⟩ | ⟨hb, he⟩ <;> cases he.symm.trans h
    · exact .status .detectSpeed .busy
    · exact .detectSpeed hb
  | forceDefault =>
    rcases execForceDefault_cases s with ⟨_, he⟩ | ⟨hb, he⟩ <;> cases he.symm.trans h
    · exact .status .forceDefault .busy
    · exact .forceDefault hb
  | setSpeedSafely u =>
    rcases execSetSpeedSafely_cases u s with ⟨_, he⟩ | ⟨_, _, he⟩ | ⟨hb, hu, he⟩ <;> cases he.symm.trans h
    · exact .status (.setSpeedSafely u) .busy
    · exact .status (.setSpeedSafely u) .badOperand
    · exact .setSpeedSafely u hb hu

/-- Every step of a command leaves its opcode in LAST_OPC (60_exceptions.md R300, R302). -/
theorem CommandStep.lastOpc {s t : State} {i : Instr} (h : CommandStep s i t) : t.cmdStatus.lastOpc = i.opcode := by
  cases h <;> rfl

/-- Issuing a word rejects it under its OPC, or runs the command it decodes to (30_encoding.md R95). -/
theorem issueCommand_next {w : Word} {s t : State} (h : issueCommand w s = .next t) :
    (∃ c, t = setCmdStatus c (opcOf w) s) ∨ ∃ i, decode w = .run i ∧ CommandStep s i t := by
  unfold issueCommand at h
  split at h
  · cases h; exact .inl ⟨.illegalOpcode, rfl⟩
  · cases h; exact .inl ⟨.reservedBits, rfl⟩
  · next i hi => exact .inr ⟨i, hi, commandStep_of_exec i h⟩

/-- A write to a host register or window other than CMD: the registers and buffers the host owns, CHK_EN legal if it was,
the buffers as long as they were (10_state.md R21, R25, R26, R32; 20_memory.md R62). -/
inductive DataWrite (s : State) : State → Prop where
  | mk (ctrl : Ctrl) (txLen : Half) (txNum : Word) (txBuf : List Byte) (cmdLen : Half) (cmdBuf : List Byte)
    (hc : ctrl.chkEn = true → s.cfg.chkAvail = true ∨ s.ctrl.chkEn = true)
    (ht : txBuf.length = s.txBuf.length) (hd : cmdBuf.length = s.cmdBuf.length) :
    DataWrite s { s with
      ctrl := ctrl, txLen := txLen, txNum := txNum, txBuf := txBuf, cmdLen := cmdLen, cmdBuf := cmdBuf }

theorem dataWrite_refl (s : State) : DataWrite s s :=
  .mk s.ctrl s.txLen s.txNum s.txBuf s.cmdLen s.cmdBuf .inr rfl rfl

theorem dataWrite_of_writeReg {r : Reg} (hr : r ≠ .cmd) {v : Word} {s t : State} (h : writeReg r v s = .next t) :
    DataWrite s t := by
  cases r
  case cmd => exact absurd rfl hr
  case ctrl => cases h; exact .mk _ _ _ _ _ _ (fun hc => .inl (Bool.and_eq_true_iff.mp hc).2) rfl rfl
  case txLen | txNum | cmdLen => cases h; exact .mk _ _ _ _ _ _ .inr rfl rfl
  all_goals cases h; exact dataWrite_refl s

theorem dataWrite_writeWindow (w : Window) (j : Nat) (v : Word) (s : State) : DataWrite s (writeWindow w j v s) := by
  cases w with
  | txData => exact .mk _ _ _ _ _ _ .inr (putWord_length ..) rfl
  | cmdText => exact .mk _ _ _ _ _ _ .inr rfl (putWord_length ..)
  | speedTable | rxData | respData => exact dataWrite_refl s

/-- CMD stands at its own offset and no other (10_state.md R20). -/
theorem eq_of_targetAt_cmd {a : Offset} (h : targetAt a.toNat = .reg .cmd) : a = 0x00C := by
  have hr : regAt a.toNat = some .cmd := by
    unfold targetAt at h
    split_ifs at h
    split at h <;> simp_all
  unfold regAt at hr
  split at hr <;> simp at hr
  next ha => exact BitVec.eq_of_toNat_eq ha

theorem hostRead_next {n : Nat} {a : Offset} {s t : State} (h : hostRead n a s = .next t) :
    t = { s with rdata := readOffset s a } := by
  rcases hostRead_cases n a s with ⟨_, he⟩ | ⟨_, he⟩ <;> cases he.symm.trans h
  rfl

/-- A host write issues a command, at CMD and nowhere else, or writes what the host owns. -/
theorem hostWrite_next {n : Nat} {a : Offset} {v : Word} {s t : State} (h : hostWrite n a v s = .next t) :
    (n = 4 ∧ a = 0x00C ∧ issueCommand v s = .next t) ∨ DataWrite s t := by
  rcases hostWrite_cases n a v s with ⟨hok, he⟩ | ⟨_, he⟩
  · have hw : writeOffset a v s = .next t := he.symm.trans h
    unfold writeOffset at hw
    split at hw
    · next r hr =>
      by_cases hc : r = .cmd
      · subst hc
        simp only [accessOk, Bool.and_eq_true, beq_iff_eq] at hok
        exact .inl ⟨hok.1, eq_of_targetAt_cmd hr, hw⟩
      · exact .inr (dataWrite_of_writeReg hc hw)
    · cases hw; exact .inr (dataWrite_writeWindow ..)
    · cases hw; exact .inr (dataWrite_refl s)
  · cases he.symm.trans h

/-- A host write of a command word is the issue of that word (30_encoding.md R90). -/
theorem hostWrite_cmd (w : Word) (s : State) : hostWrite 4 0x00C w s = issueCommand w s := rfl

end Sys2Proof.Machine

/-! ## A sequencer step is a chain of the named operations

Whatever each operation of Machine/Ops.lean keeps, every sequencer step and every transport acceptance keeps
(`Operations.keeps`). -/

namespace Sys2Proof.Machine

/-- One of the operations the sequencer's pseudocode is written in. -/
inductive Operation (s : State) : State → Prop where
  | sendByte (b : Byte) : Operation s (sendByte b s)
  | setMode (high : Bool) : Operation s (setMode high s)
  | reconfigureTo (i : Nat) : Operation s (reconfigureTo i s)
  | emit (d : Diag) : Operation s (emit d s)
  | endTxSend : Operation s (endTxSend s)
  | endCommandMode : Operation s (endCommandMode s)
  | endSettle : Operation s (endSettle s)
  | holdAt (p : Point) : Operation s (holdAt p s)
  | startText : Operation s (startText s)
  | nextByte : Operation s (nextByte s)
  | startWait (p : Point) : Operation s (startWait p s)
  | setIndex (i : Nat) : Operation s (setIndex i s)
  | setStage (g : Stage) : Operation s (setStage g s)
  | setOvf (o : Bool) : Operation s (setOvf o s)
  | setAck (a : Bool) : Operation s (setAck a s)
  | clearResponse : Operation s (clearResponse s)
  | storeResponse (b : Byte) (q : List Byte) : Operation s (storeResponse b q s)
  | publishResponse : Operation s (publishResponse s)
  | setProbe (p : ProbeReg) : Operation s (setProbe p s)
  | invalidateProbe : Operation s (invalidateProbe s)
  | publishSetSpeed : Operation s (publishSetSpeed s)

/-- Any number of operations, one after another. -/
abbrev Operations : State → State → Prop := Relation.ReflTransGen Operation

/-- What each operation keeps, a chain of them keeps. -/
theorem Operations.keeps {P : State → Prop} (hP : ∀ s t, Operation s t → P s → P t) {s t : State}
    (h : Operations s t) (hs : P s) : P t := by
  induction h with
  | refl => exact hs
  | tail _ hop ih => exact hP _ _ hop ih

section Waits

variable {after : State → State} (hafter : ∀ u, Operations u (after u))
include hafter

theorem beginWait_operations (p : Point) (t : Word) (s : State) : Operations s (beginWait p t after s) := by
  rcases beginWait_cases p t after s with ⟨_, h⟩ | ⟨_, h⟩ <;> rw [h]
  · exact .head (.startWait p) (hafter _)
  · exact .single (.startWait p)

theorem resumeWait_operations (t : Word) (s : State) : Operations s (resumeWait t after s) := by
  rcases resumeWait_cases t after s with ⟨_, h⟩ | ⟨_, h⟩
  · rw [h]; exact hafter s
  · rw [h]

end Waits

theorem enterCmdTime_operations (s : State) : Operations s (enterCmdTime s) :=
  beginWait_operations (fun _ => .single (.holdAt _)) _ _ s

theorem enterText_operations (s : State) : Operations s (enterText s) := by
  unfold enterText
  split
  · exact enterCmdTime_operations s
  · exact .single .startText

theorem beginSendCommand_operations (s : State) : Operations s (beginSendCommand s) :=
  .head .clearResponse (.head (.setMode false) (beginWait_operations enterText_operations _ _ _))

theorem endSetSpeed_operations (s : State) : Operations s (endSetSpeed s) :=
  .head .publishSetSpeed (.single .endCommandMode)

theorem afterReconf_operations (s : State) : Operations s (afterReconf s) := by
  unfold afterReconf
  split
  · exact endSetSpeed_operations s
  · exact beginSendCommand_operations s
  · exact beginSendCommand_operations s

theorem switchSpeed_operations (s : State) : Operations s (switchSpeed s) :=
  .head (.reconfigureTo _) (beginWait_operations afterReconf_operations _ _ _)

theorem beginReconf_operations (s : State) : Operations s (beginReconf s) :=
  beginWait_operations switchSpeed_operations _ _ s

theorem beginProbeLoop_operations (s : State) : Operations s (beginProbeLoop s) :=
  .head .invalidateProbe (.head (.setStage .search) (.head (.setIndex 0) (beginReconf_operations _)))

theorem afterProbeLoop_operations (s : State) : Operations s (afterProbeLoop s) := by
  unfold afterProbeLoop
  split
  · exact .head (.emit _) (.single .endCommandMode)
  · exact .head (.emit _) (endSetSpeed_operations _)
  all_goals exact .single .endCommandMode

theorem probeResult_operations (s : State) : Operations s (probeResult s) := by
  unfold probeResult
  split_ifs
  · exact .head (.setProbe _) (afterProbeLoop_operations _)
  · exact .head (.setProbe _) (afterProbeLoop_operations _)
  · exact .head (.setIndex _) (beginReconf_operations _)
  · exact .head (.setProbe _) (afterProbeLoop_operations _)

theorem forceDefaultNext_operations (s : State) : Operations s (forceDefaultNext s) := by
  unfold forceDefaultNext
  split
  · exact .head (.setIndex _) (beginReconf_operations _)
  · exact .single .endCommandMode

theorem setSpeedNext_operations (s : State) : Operations s (setSpeedNext s) := by
  unfold setSpeedNext
  dsimp only
  split
  · exact .head (.setAck _) (.head (.setStage .follow) (beginReconf_operations _))
  · exact .head (.setAck _) (beginProbeLoop_operations _)

theorem afterSendCommand_operations (s : State) : Operations s (afterSendCommand s) := by
  unfold afterSendCommand
  rcases s.seq.op with _ | op
  · exact .single .endCommandMode
  cases op with
  | probe | detectSpeed => exact probeResult_operations s
  | forceDefault => exact forceDefaultNext_operations s
  | setSpeedSafely =>
    cases s.seq.stage with
    | direct => exact setSpeedNext_operations s
    | follow | search => exact probeResult_operations s
  | sendCommand | resetSettle | txSend => exact .single .endCommandMode

theorem returnSendCommand_operations (s : State) : Operations s (returnSendCommand s) :=
  .head .publishResponse (afterSendCommand_operations _)

theorem endDrain_operations (o : Bool) (s : State) : Operations s (endDrain o s) :=
  .head (.setOvf o) (.head (.setMode true) (beginWait_operations returnSendCommand_operations _ _ _))

theorem drainStep_operations (s : State) : Operations s (drainStep s) := by
  rcases drainStep_cases s with ⟨_, h⟩ | ⟨b, q, _, _, h⟩ | ⟨b, q, _, _, h⟩ <;> rw [h]
  · exact endDrain_operations false s
  · exact endDrain_operations true s
  · exact .single (.storeResponse b q)

theorem startCommand_operations (s : State) : Operations s (startCommand s) := by
  unfold startCommand
  rcases s.seq.op with _ | op
  · exact .refl
  cases op with
  | sendCommand | setSpeedSafely => exact beginSendCommand_operations s
  | probe | detectSpeed => exact beginProbeLoop_operations s
  | forceDefault => exact .head (.setIndex 0) (beginReconf_operations _)
  | resetSettle | txSend => exact .refl

theorem sequencerStep_operations (s : State) : Operations s (sequencerStep s) := by
  unfold sequencerStep
  split
  · exact .refl
  unfold sequencerAdvance
  cases s.seq.point with
  | start => exact startCommand_operations s
  | settle => exact resumeWait_operations (fun _ => .single .endSettle) _ s
  | reconfPre => exact resumeWait_operations switchSpeed_operations _ s
  | reconfPost => exact resumeWait_operations afterReconf_operations _ s
  | setLow => exact resumeWait_operations enterText_operations _ s
  | cmdTime => exact resumeWait_operations (fun _ => .single (.holdAt _)) _ s
  | drain => exact drainStep_operations s
  | setHigh => exact resumeWait_operations returnSendCommand_operations _ s
  | txFrame | txText => exact .refl

theorem afterFrameByte_operations (s : State) : Operations s (afterFrameByte s) := by
  unfold afterFrameByte
  split
  · exact .single .nextByte
  · exact .single .endTxSend

theorem afterTextByte_operations (s : State) : Operations s (afterTextByte s) := by
  unfold afterTextByte
  split
  · exact .single .nextByte
  · exact enterCmdTime_operations s

theorem transportAccept_operations (s : State) : Operations s (transportAccept s) := by
  rcases transportAccept_cases s with ⟨_, h⟩ | ⟨b, _, _, h⟩ | ⟨b, _, _, h⟩
  · rw [h]
  · rw [h]; exact .head (.sendByte b) (afterFrameByte_operations _)
  · rw [h]; exact .head (.sendByte b) (afterTextByte_operations _)

end Sys2Proof.Machine

/-! ## The status bits and the ports (10_state.md R22, R36; 60_exceptions.md R313) -/

namespace Sys2Proof.Machine

/-- What the ports were told, and the two status bits, decide `PortsMatch`; every other field is free. -/
theorem PortsMatch.congr {s t : State} (h : PortsMatch s) (htr : t.trace = s.trace)
    (hm : t.link.modeHigh = s.link.modeHigh) (hi : t.link.speedIdx = s.link.speedIdx) (hc : t.cfg = s.cfg) :
    PortsMatch t where
  mode := by rw [htr, hm, h.mode]
  speed := by rw [htr, hi, hc, h.speed]

/-- Each operation that drives a port writes the status bit with it; TxByte and Emit drive neither line. -/
theorem Operation.portsMatch {s t : State} (h : Operation s t) (hs : PortsMatch s) : PortsMatch t := by
  cases h with
  | sendByte | emit => exact ⟨hs.mode, hs.speed⟩
  | setMode => exact ⟨rfl, hs.speed⟩
  | reconfigureTo => exact ⟨hs.mode, rfl⟩
  | _ => exact hs.congr rfl rfl rfl rfl

theorem Operations.portsMatch {s t : State} (h : Operations s t) (hs : PortsMatch s) : PortsMatch t :=
  h.keeps (fun _ _ ho => ho.portsMatch) hs

/-- No host write drives a port (60_exceptions.md R313). -/
theorem hostWrite_portsMatch {n : Nat} {a : Offset} {v : Word} {s t : State} (h : hostWrite n a v s = .next t)
    (hs : PortsMatch s) : PortsMatch t := by
  rcases hostWrite_next h with ⟨_, _, hi⟩ | hd
  · rcases issueCommand_next hi with ⟨c, rfl⟩ | ⟨i, _, hx⟩
    · exact hs.congr rfl rfl rfl rfl
    · cases hx <;> exact hs.congr rfl rfl rfl rfl
  · cases hd
    exact hs.congr rfl rfl rfl rfl

theorem decoderStep_portsMatch {s : State} (hs : PortsMatch s) : PortsMatch (decoderStep s) := by
  unfold decoderStep
  split
  · exact hs
  · split <;> exact hs.congr rfl rfl rfl rfl

theorem takeEvent_portsMatch {s : State} (hs : PortsMatch s) : PortsMatch (takeEvent s) := by
  unfold takeEvent
  split <;> exact hs.congr rfl rfl rfl rfl

theorem powerOn_portsMatch (c : Config) (now : Word) (d : Nat) : PortsMatch (State.powerOn c now d) := ⟨rfl, rfl⟩

theorem perform_portsMatch (e : Event) {s t : State} (h : perform e s = .next t) (hs : PortsMatch s) :
    PortsMatch t := by
  cases e with
  | hostRead n a => rw [hostRead_next h]; exact hs.congr rfl rfl rfl rfl
  | hostWrite n a v => exact hostWrite_portsMatch h hs
  | decoderStep => cases h; exact decoderStep_portsMatch hs
  | sequencerStep => cases h; exact (sequencerStep_operations s).portsMatch hs
  | transportAccept => cases h; exact (transportAccept_operations s).portsMatch hs
  | transportDeliver | transportRequeue | clockAdvance => cases h; exact hs.congr rfl rfl rfl rfl
  | reset => cases h; exact ⟨rfl, rfl⟩

/-- Settles O57: every operation keeps the match, so each agent's step does, and a power-up drives both ports itself. -/
theorem portsAlwaysMatchStatus : Obligations.PortsAlwaysMatchStatus := by
  refine ⟨fun s t hs h => ?_, powerOn_portsMatch⟩
  obtain ⟨_, hp⟩ := perform_of_step h
  exact perform_portsMatch _ hp (takeEvent_portsMatch hs)

end Sys2Proof.Machine

/-! ## The register words, field by field (10_state.md R21 to R35)

Each register is a concatenation of its fields; a field is read by dropping what stands below it. In each proof one
`simp` walks down the concatenation and the next finishes the arithmetic of the positions. -/

namespace Sys2Proof.Machine

open BitVec (extractLsb'_append_eq_of_le extractLsb'_append_eq_of_add_le)

theorem getLsbD_append_of_lt {v w n : Nat} {hi : BitVec v} {lo : BitVec w} (h : n < w) :
    (hi ++ lo).getLsbD n = lo.getLsbD n := by
  rw [BitVec.getLsbD_append, if_pos h]

theorem getLsbD_append_of_le {v w n : Nat} {hi : BitVec v} {lo : BitVec w} (h : w ≤ n) :
    (hi ++ lo).getLsbD n = hi.getLsbD (n - w) := by
  rw [BitVec.getLsbD_append, if_neg (by omega)]

theorem ctrlWord_fields (s : State) :
    (ctrlWord s).getLsbD 0 = chkEnabled s ∧ (ctrlWord s).extractLsb' 1 2 = s.ctrl.fmt.code ∧
    (ctrlWord s).extractLsb' 3 29 = 0 := by
  unfold ctrlWord
  and_intros <;>
    simp (disch := decide) only [extractLsb'_append_eq_of_le, extractLsb'_append_eq_of_add_le,
      getLsbD_append_of_lt] <;> simp

theorem statusWord_fields (s : State) :
    (statusWord s).getLsbD 0 = s.busy ∧ (statusWord s).getLsbD 1 = s.link.sending ∧
    (statusWord s).getLsbD 2 = txReady s ∧ (statusWord s).getLsbD 3 = frameReady s ∧
    (statusWord s).extractLsb' 4 2 = s.rx.phase.code ∧ (statusWord s).getLsbD 6 = s.rx.trunc ∧
    (statusWord s).getLsbD 7 = s.rx.chkOvf ∧ (statusWord s).getLsbD 8 = s.link.modeHigh ∧
    (statusWord s).getLsbD 9 = s.cmdActive ∧ (statusWord s).getLsbD 10 = s.cfg.chkAvail ∧
    (statusWord s).extractLsb' 11 21 = 0 := by
  unfold statusWord
  and_intros <;>
    simp (disch := decide) only [extractLsb'_append_eq_of_le, extractLsb'_append_eq_of_add_le,
      getLsbD_append_of_le, getLsbD_append_of_lt] <;> simp

theorem cmdStatusWord_fields (s : State) :
    (cmdStatusWord s).extractLsb' 0 4 = s.cmdStatus.cause.code ∧ (cmdStatusWord s).extractLsb' 4 4 = 0 ∧
    (cmdStatusWord s).extractLsb' 8 8 = s.cmdStatus.lastOpc ∧ (cmdStatusWord s).extractLsb' 16 16 = 0 := by
  unfold cmdStatusWord
  and_intros <;>
    simp (disch := decide) only [extractLsb'_append_eq_of_le, extractLsb'_append_eq_of_add_le] <;> simp

theorem verifyWord_fields (s : State) :
    (verifyWord s).getLsbD 0 = s.rx.verify.valid ∧ (verifyWord s).getLsbD 1 = s.rx.verify.ok ∧
    (verifyWord s).getLsbD 2 = s.rx.verify.parsed ∧ (verifyWord s).getLsbD 3 = s.rx.verify.mode ∧
    (verifyWord s).extractLsb' 4 12 = 0 ∧ (verifyWord s).extractLsb' 16 16 = s.rx.verify.value := by
  unfold verifyWord
  and_intros <;>
    simp (disch := decide) only [extractLsb'_append_eq_of_le, extractLsb'_append_eq_of_add_le,
      getLsbD_append_of_le, getLsbD_append_of_lt] <;> simp

theorem respStatusWord_fields (s : State) :
    (respStatusWord s).extractLsb' 0 16 = BitVec.ofNat 16 s.link.resp.len ∧
    (respStatusWord s).getLsbD 16 = s.link.resp.ovf ∧ (respStatusWord s).getLsbD 17 = s.link.resp.valid ∧
    (respStatusWord s).extractLsb' 18 14 = 0 := by
  unfold respStatusWord
  and_intros <;>
    simp (disch := decide) only [extractLsb'_append_eq_of_le, extractLsb'_append_eq_of_add_le,
      getLsbD_append_of_le, getLsbD_append_of_lt] <;> simp

theorem probeWord_fields (s : State) :
    (probeWord s).getLsbD 0 = s.probe.valid ∧ (probeWord s).getLsbD 1 = s.probe.found ∧
    (probeWord s).getLsbD 2 = s.probe.overflow ∧ (probeWord s).extractLsb' 3 5 = 0 ∧
    (probeWord s).extractLsb' 8 8 = s.probe.index ∧ (probeWord s).extractLsb' 16 16 = 0 := by
  unfold probeWord
  and_intros <;>
    simp (disch := decide) only [extractLsb'_append_eq_of_le, extractLsb'_append_eq_of_add_le,
      getLsbD_append_of_le, getLsbD_append_of_lt] <;> simp

theorem setSpeedWord_fields (s : State) :
    (setSpeedWord s).getLsbD 0 = s.setSpeed.valid ∧ (setSpeedWord s).getLsbD 1 = s.setSpeed.ack ∧
    (setSpeedWord s).extractLsb' 2 6 = 0 ∧ (setSpeedWord s).extractLsb' 8 8 = s.setSpeed.target ∧
    (setSpeedWord s).extractLsb' 16 16 = 0 := by
  unfold setSpeedWord
  and_intros <;>
    simp (disch := decide) only [extractLsb'_append_eq_of_le, extractLsb'_append_eq_of_add_le,
      getLsbD_append_of_le, getLsbD_append_of_lt] <;> simp

/-- Each lane of a packed word is its byte (20_memory.md R62). -/
theorem packLanes_lanes (b0 b1 b2 b3 : Byte) :
    (packLanes b0 b1 b2 b3).extractLsb' 0 8 = b0 ∧ (packLanes b0 b1 b2 b3).extractLsb' 8 8 = b1 ∧
    (packLanes b0 b1 b2 b3).extractLsb' 16 8 = b2 ∧ (packLanes b0 b1 b2 b3).extractLsb' 24 8 = b3 := by
  unfold packLanes
  and_intros <;>
    simp (disch := decide) only [extractLsb'_append_eq_of_le, extractLsb'_append_eq_of_add_le] <;> simp

/-- Lane `k` of word `j` of a window is byte `4j + k` under the window's mask. -/
theorem windowWord_lane (buf : List Byte) (limit j : Nat) {k : Nat} (hk : k < 4) :
    (windowWord buf limit j).extractLsb' (8 * k) 8 = maskedByte buf limit (4 * j + k) := by
  obtain ⟨h0, h1, h2, h3⟩ := packLanes_lanes (maskedByte buf limit (4 * j)) (maskedByte buf limit (4 * j + 1))
    (maskedByte buf limit (4 * j + 2)) (maskedByte buf limit (4 * j + 3))
  match k, hk with
  | 0, _ => exact h0
  | 1, _ => exact h1
  | 2, _ => exact h2
  | 3, _ => exact h3

/-- Reserved bits: a field that reads 0 has none of its bits set. -/
theorem getLsbD_eq_false_of_extractLsb'_eq_zero {w : Word} {start len : Nat} (h : w.extractLsb' start len = 0)
    (hw : 32 ≤ start + len) {n : Nat} (hn : start ≤ n) : w.getLsbD n = false := by
  by_cases hlt : n < start + len
  · have hb := congrArg (·.getLsbD (n - start)) h
    simpa [BitVec.getLsbD_extractLsb', show n - start < len by omega, show start + (n - start) = n by omega] using hb
  · exact BitVec.getLsbD_of_ge _ _ (by omega)

/-! ## The windows' words (20_memory.md R60) -/

theorem offset_toNat {base j : Nat} (h : base + 4 * j < 2 ^ 16) :
    (BitVec.ofNat 16 (base + 4 * j)).toNat = base + 4 * j := by
  rw [BitVec.toNat_ofNat, Nat.mod_eq_of_lt h]

/-- The offset of word `j` of a byte window names that word. -/
theorem targetAt_byteWindows {j : Nat} (hj : j < 1024) :
    targetAt (0x1000 + 4 * j) = .window .txData j ∧ targetAt (0x2000 + 4 * j) = .window .rxData j ∧
    targetAt (0x3000 + 4 * j) = .window .cmdText j ∧ targetAt (0x4000 + 4 * j) = .window .respData j := by
  have hdiv (base : Nat) : (base + 4 * j - base) / 4 = j := by omega
  unfold targetAt
  and_intros <;> simp (disch := omega) only [if_neg, if_pos, hdiv]

/-- The offset of word `j` of the speed table (10_state.md R41). -/
theorem targetAt_speedTable {j : Nat} (hj : j < 256) : targetAt (0x0800 + 4 * j) = .window .speedTable j := by
  have hdiv : (0x0800 + 4 * j - 0x0800) / 4 = j := by omega
  unfold targetAt
  simp (disch := omega) only [if_neg, if_pos, hdiv]

theorem readOffset_of_target {s : State} {base j : Nat} {w : Window} (h : base + 4 * j < 2 ^ 16)
    (ht : targetAt (base + 4 * j) = .window w j) : readOffset s (BitVec.ofNat 16 (base + 4 * j)) = readWindow s w j := by
  rw [readOffset, offset_toNat h, ht]

end Sys2Proof.Machine

/-! ## The registers and windows as the host reads them (10_state.md R21 to R45) -/

namespace Sys2Proof.Machine

theorem frameReady_iff (s : State) : frameReady s = true ↔ s.rx.phase = .frameComplete := beq_iff_eq

/-- STATUS bits 9:3 after a power-up: MODE_HIGH alone is set (R22). -/
theorem statusWord_powerOn (c : Config) (now : Word) (d : Nat) :
    (statusWord (State.powerOn c now d)).extractLsb' 3 7 = 0b0100000 := by
  obtain ⟨_, _, _, h3, h45, h6, h7, h8, h9, _⟩ := statusWord_fields (State.powerOn c now d)
  change _ = (0 : BitVec 2) at h45
  have h4 : (statusWord (State.powerOn c now d)).getLsbD 4 = false := by
    simpa [BitVec.getLsbD_extractLsb'] using congrArg (·.getLsbD 0) h45
  have h5 : (statusWord (State.powerOn c now d)).getLsbD 5 = false := by
    simpa [BitVec.getLsbD_extractLsb'] using congrArg (·.getLsbD 1) h45
  apply BitVec.eq_of_getLsbD_eq
  intro i hi
  rw [BitVec.getLsbD_extractLsb']
  match i, hi with
  | 0, _ => exact h3
  | 1, _ => exact h4
  | 2, _ => exact h5
  | 3, _ => exact h6
  | 4, _ => exact h7
  | 5, _ => exact h8
  | 6, _ => exact h9

/-- Settles O38: STATUS field by field, the phase by its code; a power-up is one of the states it is said of. -/
theorem statusReadsTheState : Obligations.StatusReadsTheState := by
  refine ⟨fun s => ?_, fun c now d => ?_⟩
  · rw [show readOffset s 0x004 = statusWord s from rfl]
    obtain ⟨h0, h1, h2, h3, h4, h6, h7, h8, h9, h10, h11⟩ := statusWord_fields s
    refine ⟨h0, h1, h2, ?_, ?_, h6, h7, h8, h9, ?_,
      fun n hn => getLsbD_eq_false_of_extractLsb'_eq_zero h11 (by decide) hn⟩
    · rw [h3, frameReady_iff]
    · rw [h4]
      cases s.rx.phase <;> rfl
    · rw [h10, Config.chkAvail, decide_eq_true_iff]
  · rw [show readOffset (State.powerOn c now d) 0x004 = statusWord (State.powerOn c now d) from rfl]
    obtain ⟨h0, h1, _⟩ := statusWord_fields (State.powerOn c now d)
    exact ⟨statusWord_powerOn c now d, h0, h1⟩

/-- What bits 2:1 of a CTRL write make of FMT (R21). -/
theorem fmtWrite_eq (old : Fmt) (v : Word) :
    (v.extractLsb' 1 2 = 0 → fmtWrite old v = .text) ∧ (v.extractLsb' 1 2 = 1 → fmtWrite old v = .uint) ∧
    (v.extractLsb' 1 2 = 2 → fmtWrite old v = .sint) ∧ (v.extractLsb' 1 2 = 3 → fmtWrite old v = old) := by
  unfold fmtWrite
  and_intros <;> intro h <;> rw [h] <;> rfl

theorem fmtWrite_code (old : Fmt) (v : Word) (h : v.extractLsb' 1 2 ≠ 3) :
    (fmtWrite old v).code = v.extractLsb' 1 2 := by
  obtain ⟨h0, h1, h2, _⟩ := fmtWrite_eq old v
  have hx : ∀ x : BitVec 2, x ≠ 3 → x = 0 ∨ x = 1 ∨ x = 2 := by decide
  rcases hx _ h with hv | hv | hv
  · rw [h0 hv, hv]; rfl
  · rw [h1 hv, hv]; rfl
  · rw [h2 hv, hv]; rfl

/-- Settles O39: the write leaves the state `writeCtrl` says, read back through CTRL's fields. -/
theorem ctrlWriteAnyReadLegal : Obligations.CtrlWriteAnyReadLegal := by
  intro s v
  obtain ⟨hchk, hfmt, hrsv⟩ := ctrlWord_fields (writeCtrl v s)
  have hen : chkEnabled (writeCtrl v s) = (v.getLsbD 0 && decide (s.cfg.nCap ≤ s.cfg.chkMaxCap)) := by
    simp [chkEnabled, writeCtrl, Config.chkAvail]
  obtain ⟨h0, h1, h2, h3⟩ := fmtWrite_eq s.ctrl.fmt v
  exact ⟨writeCtrl v s, rfl, rfl, hchk.trans hen, hen, fun h => hfmt.trans (fmtWrite_code _ v h), h0, h1, h2, h3,
    hrsv⟩

theorem setWidth_setWidth_half (v : Word) : (v.setWidth 16).setWidth 32 = v &&& 0xFFFF := by
  apply BitVec.eq_of_toNat_eq
  have hm : v.toNat &&& 0xFFFF = v.toNat % 2 ^ 16 := Nat.and_two_pow_sub_one_eq_mod v.toNat 16
  rw [BitVec.toNat_and, BitVec.toNat_setWidth, BitVec.toNat_setWidth]
  change _ = v.toNat &&& 0xFFFF
  omega

/-- A field of `m` bits that holds `n` reads as `n` in a whole register. -/
theorem setWidth_ofNat_toNat {m n : Nat} (hm : m ≤ 32) (hn : n < 2 ^ m) :
    ((BitVec.ofNat m n).setWidth 32).toNat = n := by
  rw [BitVec.toNat_setWidth, BitVec.toNat_ofNat, Nat.mod_eq_of_lt hn,
    Nat.mod_eq_of_lt (hn.trans_le (Nat.pow_le_pow_right (by decide) hm))]

/-- Settles O40: each write stores its field, and the read of a 16-bit field is the word's low half. -/
theorem dataRegistersReadBack : Obligations.DataRegistersReadBack := fun _ v =>
  ⟨⟨_, rfl, setWidth_setWidth_half v, rfl⟩, ⟨_, rfl, rfl, rfl⟩, ⟨_, rfl, setWidth_setWidth_half v, rfl⟩⟩

/-- What a well-formed configuration bounds (00_scope.md R6). -/
theorem bounds_of_config_wf {c : Config} (h : c.wf = true) :
    (1 ≤ c.nCap ∧ c.nCap ≤ 4096) ∧ (1 ≤ c.cmdCap ∧ c.cmdCap ≤ 4096) ∧ (1 ≤ c.respCap ∧ c.respCap ≤ 4096) ∧
    (1 ≤ c.k ∧ c.k ≤ 255) ∧ c.initSpeedIdx < c.k := by
  simp [Config.wf, Config.capacitiesInRange, Config.speedCountInRange, Config.initSpeedInTable] at h
  tauto

/-- Settles O42: under the invariant each mask's limit is the length register itself, and a lane is its masked byte. -/
theorem receivedBytesAreMasked : Obligations.ReceivedBytesAreMasked := by
  intro s j k hj hk h
  obtain ⟨_, hrx, _, hresp⟩ := targetAt_byteWindows hj
  have hrxLen : min s.rx.len s.cfg.nCap = s.rx.len := Nat.min_eq_left h.rx.len_le
  have hrespLen : min s.link.resp.len s.cfg.respCap = s.link.resp.len := Nat.min_eq_left h.respLen
  have hchkLen : min s.rx.chkLen Config.chkDigits = s.rx.chkLen := Nat.min_eq_left h.rx.chkLen_le
  refine ⟨?_, ?_, ?_, ?_⟩
  · rw [readOffset_of_target (by omega) hrx, readWindow, hrxLen, windowWord_lane _ _ _ hk]; rfl
  · rw [readOffset_of_target (by omega) hresp, readWindow, hrespLen, windowWord_lane _ _ _ hk]; rfl
  · rw [show readOffset s 0x024 = windowWord s.rx.chk s.rx.chkLen 0 from rfl, windowWord_lane _ _ _ hk, Nat.mul_zero,
      Nat.zero_add]
    rfl
  · rw [show readOffset s 0x028 = windowWord s.rx.chk (min s.rx.chkLen Config.chkDigits) 1 from rfl, hchkLen,
      windowWord_lane _ _ _ hk, maskedByte]
    have := h.rx.chkLen_le
    by_cases hk0 : k = 0
    · subst hk0; simp [State.byteAt, State.buffer]
    · rw [if_neg (by omega), if_neg (by omega)]

/-- Settles O43: a well-formed configuration's capacities and table size fit a register. -/
theorem constantRegistersRead : Obligations.ConstantRegistersRead := by
  intro s j hj hwf
  obtain ⟨hn, hc, hr, hk, _⟩ := bounds_of_config_wf hwf
  have small {n : Nat} (h : n ≤ 4096) : (BitVec.ofNat 32 n).toNat = n := by
    rw [BitVec.toNat_ofNat]; omega
  refine ⟨rfl, rfl, small hn.2, small (by omega), small hc.2, small hr.2, ?_⟩
  rw [readOffset_of_target (by omega) (targetAt_speedTable hj)]
  rfl

/-- Settles O59: field by field from the register words; the lengths and the index fit their fields by the invariant. -/
theorem resultRegistersRead : Obligations.ResultRegistersRead := by
  intro s h
  obtain ⟨hn, hc, hr, hk, _⟩ := bounds_of_config_wf h.config
  obtain ⟨hlen, hresp⟩ := respStatusWord_fields s
  have := h.rx.len_le
  have := h.rx.chkLen_le
  have := h.respLen
  have := h.speedIdx
  refine ⟨?_, ?_, ?_, ?_, rfl, verifyWord_fields s, ⟨?_, hresp⟩, probeWord_fields s, setSpeedWord_fields s⟩
  · exact BitVec.toNat_setWidth_of_le (by decide)
  · exact setWidth_ofNat_toNat (by decide) (by omega)
  · exact setWidth_ofNat_toNat (by decide) (by omega)
  · exact setWidth_ofNat_toNat (by decide) (by omega)
  · rw [show readOffset s 0x034 = respStatusWord s from rfl, hlen, BitVec.toNat_ofNat]
    omega

end Sys2Proof.Machine

/-! ## The command word determines the command and is determined by it (30_encoding.md R90, R91, R95) -/

namespace Sys2Proof

theorem word_eq_fields (w : Word) : w = rsvOf w ++ argOf w ++ opcOf w := by
  apply BitVec.eq_of_getLsbD_eq
  intro i hi
  simp only [rsvOf, argOf, opcOf, BitVec.getLsbD_append, BitVec.getLsbD_extractLsb']
  split_ifs with h8 h16
  · simp [h8]
  · simp [h16, show 8 + (i - 8) = i by omega]
  · simp [show i - 8 - 8 < 16 by omega, show 16 + (i - 8 - 8) = i by omega]

/-- An OPC the map knows is its command's, and ARG that command's operand where it has one (R91, R92). -/
theorem opcode_of_instrOf {o a : Byte} {i : Instr} (h : instrOf o a = some i) :
    i.opcode = o ∧ (o = 0x14 → i.arg = a) ∧ (o ≠ 0x14 → i.arg = 0) := by
  have hof : BitVec.ofNat 8 o.toNat = o := BitVec.eq_of_toNat_eq (by simp)
  unfold instrOf at h
  split at h
  case h_11 => cases h
  all_goals
    cases h
    next ho =>
      rw [ho] at hof
      subst hof
      simp [Instr.opcode, Instr.arg]

/-- A word that decodes to a command is that command's encoding: no other word runs it. -/
theorem eq_encode_of_decode {w : Word} {i : Instr} (h : decode w = .run i) : w = encode i := by
  unfold decode at h
  split at h
  · cases h
  · next j hj =>
    split_ifs at h with hr
    cases h
    obtain ⟨ho, ha, h0⟩ := opcode_of_instrOf hj
    simp only [reservedSet, Bool.or_eq_true, bne_iff_ne, Bool.and_eq_true, not_or, not_and, not_not] at hr
    have harg : i.arg = argOf w := by
      by_cases h14 : opcOf w = 0x14
      · exact ha h14
      · rw [h0 h14, hr.2 h14]
    rw [encode, ho, harg, ← hr.1]
    exact word_eq_fields w

theorem opcOf_encode (i : Instr) : opcOf (encode i) = i.opcode := by
  rw [opcOf, encode, BitVec.extractLsb'_append_eq_of_add_le (by decide)]
  exact BitVec.extractLsb'_eq_self

end Sys2Proof

/-! ## Who writes what (10_state.md R23, R46, R49, R51; 20_memory.md R63) -/

namespace Sys2Proof.Machine

/-- Issuing a word leaves its OPC in LAST_OPC, rejected or not (10_state.md R23). -/
theorem issueCommand_lastOpc {w : Word} {s t : State} (h : issueCommand w s = .next t) :
    t.cmdStatus.lastOpc = opcOf w := by
  rcases issueCommand_next h with ⟨c, rfl⟩ | ⟨i, hi, hx⟩
  · rfl
  · rw [hx.lastOpc, eq_encode_of_decode hi, opcOf_encode]

@[simp] theorem decoderStep_fields (s : State) :
    (decoderStep s).ctrl = s.ctrl ∧ (decoderStep s).cmdStatus = s.cmdStatus ∧ (decoderStep s).txLen = s.txLen ∧
    (decoderStep s).txNum = s.txNum ∧ (decoderStep s).txBuf = s.txBuf ∧ (decoderStep s).cmdLen = s.cmdLen ∧
    (decoderStep s).cmdBuf = s.cmdBuf ∧ (decoderStep s).chkValue = s.chkValue := by
  unfold decoderStep
  split
  · and_intros <;> rfl
  · split <;> and_intros <;> rfl

@[simp] theorem takeEvent_fields (s : State) :
    (takeEvent s).ctrl = s.ctrl ∧ (takeEvent s).cmdStatus = s.cmdStatus ∧ (takeEvent s).txLen = s.txLen ∧
    (takeEvent s).txNum = s.txNum ∧ (takeEvent s).txBuf = s.txBuf ∧ (takeEvent s).cmdLen = s.cmdLen ∧
    (takeEvent s).cmdBuf = s.cmdBuf ∧ (takeEvent s).chkValue = s.chkValue := by
  unfold takeEvent
  split <;> and_intros <;> rfl

@[simp] theorem takeEvent_rx (s : State) : (takeEvent s).rx = s.rx := by
  unfold takeEvent
  split <;> rfl

/-- The fields the host owns are among those `State.unsequenced` keeps. -/
theorem hostFields_of_unsequenced_eq {s t : State} (h : t.unsequenced = s.unsequenced) :
    t.ctrl = s.ctrl ∧ t.txLen = s.txLen ∧ t.txNum = s.txNum ∧ t.txBuf = s.txBuf ∧ t.cmdLen = s.cmdLen ∧
    t.cmdBuf = s.cmdBuf ∧ t.chkValue = s.chkValue :=
  have field {α : Type} (f : State → α) : f t.unsequenced = f s.unsequenced := congrArg f h
  ⟨field State.ctrl, field State.txLen, field State.txNum, field State.txBuf, field State.cmdLen, field State.cmdBuf,
    field State.chkValue⟩

theorem cmdStatus_of_unsequenced_eq {s t : State} (h : t.unsequenced = s.unsequenced) : t.cmdStatus = s.cmdStatus :=
  (congrArg State.cmdStatus h : t.unsequenced.cmdStatus = s.unsequenced.cmdStatus)

theorem rx_of_unsequenced_eq {s t : State} (h : t.unsequenced = s.unsequenced) : t.rx = s.rx :=
  (congrArg State.rx h : t.unsequenced.rx = s.unsequenced.rx)

/-- Every agent's step but a CMD write and a reset leaves CMD_STATUS (R23). -/
theorem perform_cmdStatus {e : Event} {s t : State} (h : perform e s = .next t) (hc : ¬ IsCmdWrite e)
    (hr : e ≠ .reset) : t.cmdStatus = s.cmdStatus := by
  cases e with
  | hostRead n a => rw [hostRead_next h]
  | hostWrite n a v =>
    rcases hostWrite_next h with ⟨rfl, rfl, _⟩ | hd
    · exact absurd ⟨v, rfl⟩ hc
    · cases hd; rfl
  | decoderStep => cases h; simp
  | sequencerStep => cases h; exact cmdStatus_of_unsequenced_eq (sequencerStep_unsequenced s)
  | transportAccept => cases h; exact cmdStatus_of_unsequenced_eq (transportAccept_unsequenced s)
  | transportDeliver | transportRequeue | clockAdvance => cases h; rfl
  | reset => exact absurd rfl hr

theorem cmdStatusWord_accepted_zero {s : State} (h : s.cmdStatus = { cause := .accepted, lastOpc := 0 }) :
    cmdStatusWord s = 0 := by
  rw [cmdStatusWord, h]
  decide

/-- Settles O46: the fields of the word, the outcome of every issued word, the frame of every other step, and the reset. -/
theorem cmdStatusIsTheLastCommandWrite : Obligations.CmdStatusIsTheLastCommandWrite := by
  refine ⟨fun s => ?_, fun s t w h he => ?_, fun s t h hc hr => ?_, fun s t h he => ?_⟩
  · obtain ⟨hc, h4, ho, h16⟩ := cmdStatusWord_fields s
    refine ⟨ho, ?_, h4, h16⟩
    rw [show readOffset s 0x008 = cmdStatusWord s from rfl, hc]
    cases s.cmdStatus.cause <;> rfl
  · obtain ⟨_, hp⟩ := perform_of_step h
    rw [he] at hp
    exact ⟨issueCommand_lastOpc hp, hp⟩
  · obtain ⟨_, hp⟩ := perform_of_step h
    simpa using perform_cmdStatus hp hc hr
  · obtain ⟨_, hp⟩ := perform_of_step h
    rw [he] at hp
    cases hp
    exact cmdStatusWord_accepted_zero rfl

/-- Settles O48: of the agents, the decoder writes the decoder state only, the sequencer and the transport none of these. -/
theorem onlyTheHostWritesItsBuffers : Obligations.OnlyTheHostWritesItsBuffers := by
  intro s t h hr hw
  obtain ⟨_, hp⟩ := perform_of_step h
  obtain ⟨hctrl, _, htxLen, htxNum, htxBuf, hcmdLen, hcmdBuf, hchk⟩ := takeEvent_fields s
  rw [← hctrl, ← htxLen, ← htxNum, ← htxBuf, ← hcmdLen, ← hcmdBuf, ← hchk]
  generalize nextEvent s = e at *
  cases e with
  | hostRead n a => rw [hostRead_next hp]; and_intros <;> rfl
  | hostWrite n a v => exact absurd rfl (hw n a v)
  | decoderStep => cases hp; simp
  | sequencerStep => cases hp; exact hostFields_of_unsequenced_eq (sequencerStep_unsequenced _)
  | transportAccept => cases hp; exact hostFields_of_unsequenced_eq (transportAccept_unsequenced _)
  | transportDeliver | transportRequeue | clockAdvance => cases hp; and_intros <;> rfl
  | reset => exact absurd rfl hr

/-- What an agent's step leaves of the decoder state: everything, but for a decoder step, a reset, RX_REARM and CHK_VERIFY
(10_state.md R46). -/
inductive RxWrite (s : State) : Event → State → Prop where
  | unchanged {e : Event} {t : State} (hrx : t.rx = s.rx) : RxWrite s e t
  | decoder : RxWrite s .decoderStep (decoderStep s)
  | rearmed {t : State} (hrx : t.rx = rearm s.rx) : RxWrite s (.hostWrite 4 0x00C 0x00000002) t
  | verified {t : State} (v : VerifyReg) (hrx : t.rx = { s.rx with verify := v }) :
    RxWrite s (.hostWrite 4 0x00C 0x00000004) t
  | reset : RxWrite s .reset (resetStep s)

theorem rxWrite_of_hostWrite {n : Nat} {a : Offset} {v : Word} {s t : State} (h : hostWrite n a v s = .next t) :
    RxWrite s (.hostWrite n a v) t := by
  rcases hostWrite_next h with ⟨rfl, rfl, hi⟩ | hd
  · rcases issueCommand_next hi with ⟨c, rfl⟩ | ⟨i, hi, hx⟩
    · exact .unchanged rfl
    · rw [eq_encode_of_decode hi]
      cases hx with
      | rearmed => exact .rearmed rfl
      | verified => exact .verified _ rfl
      | _ => exact .unchanged rfl
  · cases hd
    exact .unchanged rfl

theorem rxWrite_of_perform (e : Event) {s t : State} (h : perform e s = .next t) : RxWrite s e t := by
  cases e with
  | hostRead n a => exact .unchanged (by rw [hostRead_next h])
  | hostWrite n a v => exact rxWrite_of_hostWrite h
  | decoderStep => cases h; exact .decoder
  | sequencerStep => cases h; exact .unchanged (rx_of_unsequenced_eq (sequencerStep_unsequenced s))
  | transportAccept => cases h; exact .unchanged (rx_of_unsequenced_eq (transportAccept_unsequenced s))
  | transportDeliver | transportRequeue | clockAdvance => cases h; exact .unchanged rfl
  | reset => cases h; exact .reset

theorem rxWrite_of_step {s t : State} (h : step s = .next t) : RxWrite (takeEvent s) (nextEvent s) t :=
  rxWrite_of_perform _ (perform_of_step h).2

/-- Settles O47: the four ways `RxWrite` knows of changing the decoder state. -/
theorem onlyTheDecoderWritesItsState : Obligations.OnlyTheDecoderWritesItsState := by
  intro s t h hne
  have hw := rxWrite_of_step h
  generalize nextEvent s = e at hw
  cases hw with
  | unchanged hrx => exact absurd (hrx.trans (takeEvent_rx s)) hne
  | decoder => exact .inl rfl
  | reset => exact .inr (.inl rfl)
  | rearmed => exact .inr (.inr (.inl rfl))
  | verified => exact .inr (.inr (.inr rfl))

/-! ## The mode of a checksum field (10_state.md R49) -/

/-- DELIM is a class of checksum mode only (30_encoding.md R103). -/
theorem chk_of_classify_delim {c : Config} {chk : Bool} {b : Byte} (h : classify c chk b = .delim) : chk = true := by
  unfold classify at h
  split_ifs at h with _ _ hd
  exact hd.1

/-- What one received byte can do to the decoder state, with the phase each change comes from (41_decode.md R153). -/
inductive ByteEffect (nCap : Nat) (chk : Bool) (b : Byte) (r : Rx) : Rx → Prop where
  | dropped : ByteEffect nCap chk b r r
  | started (hp : r.phase ≠ .frameComplete) : ByteEffect nCap chk b r (startFrame r)
  | fieldBegun (hp : r.phase = .readingPayload) (hc : chk = true) :
    ByteEffect nCap chk b r { r with phase := .readingChecksum, chkLen := 0 }
  | completed (hp : r.phase = .readingPayload ∨ r.phase = .readingChecksum) :
    ByteEffect nCap chk b r { r with phase := .frameComplete }
  | stored (hp : r.phase = .readingPayload) (hl : r.len < nCap) :
    ByteEffect nCap chk b r { r with buf := r.buf.set r.len b, len := r.len + 1 }
  | truncated (hp : r.phase = .readingPayload) (hl : nCap ≤ r.len) : ByteEffect nCap chk b r { r with trunc := true }
  | cutOff (hp : r.phase = .readingPayload) (hl : nCap ≤ r.len) :
    ByteEffect nCap chk b r { r with trunc := true, phase := .frameComplete }
  | fieldStored (hp : r.phase = .readingChecksum) (hl : r.chkLen < 5) :
    ByteEffect nCap chk b r { r with chk := r.chk.set r.chkLen b, chkLen := r.chkLen + 1 }
  | fieldOverflowed (hp : r.phase = .readingChecksum) (hl : 5 ≤ r.chkLen) :
    ByteEffect nCap chk b r { r with chkOvf := true, phase := .frameComplete }

theorem byteEffect_takePayloadByte {nCap : Nat} {chk : Bool} {b : Byte} {r : Rx} (hp : r.phase = .readingPayload) :
    ByteEffect nCap chk b r (takePayloadByte nCap chk b r) := by
  unfold takePayloadByte
  split_ifs with hl
  · exact .stored hp hl
  · exact .truncated hp (Nat.le_of_not_lt hl)
  · exact .cutOff hp (Nat.le_of_not_lt hl)

theorem byteEffect_takeChecksumByte {nCap : Nat} {chk : Bool} {b : Byte} {r : Rx} (hp : r.phase = .readingChecksum) :
    ByteEffect nCap chk b r (takeChecksumByte b r) := by
  unfold takeChecksumByte
  split_ifs with hl
  · exact .fieldStored hp hl
  · exact .fieldOverflowed hp (Nat.le_of_not_lt hl)

theorem byteEffect_decodeByte (c : Config) (chk : Bool) (b : Byte) (r : Rx) :
    ByteEffect c.nCap chk b r (decodeByte c chk b r) := by
  unfold decodeByte
  cases hp : r.phase with
  | idle =>
    cases classify c chk b with
    | start => exact .started (by simp [hp])
    | delim | stop | other => exact .dropped
  | readingPayload =>
    cases hc : classify c chk b with
    | start => exact .started (by simp [hp])
    | delim => exact .fieldBegun hp (chk_of_classify_delim hc)
    | stop => exact .completed (.inl hp)
    | other => exact byteEffect_takePayloadByte hp
  | readingChecksum =>
    cases classify c chk b with
    | start => exact .started (by simp [hp])
    | delim => exact .dropped
    | stop => exact .completed (.inr hp)
    | other => exact byteEffect_takeChecksumByte hp
  | frameComplete => exact .dropped

/-- A decoder step takes the oldest received byte, or there is no such step (41_decode.md R150). -/
theorem decoderStep_cases (s : State) :
    decoderStep s = s ∨ ∃ b q, s.cmdActive = false ∧ s.rxQueue = b :: q ∧
      decoderStep s = { s with rxQueue := q, rx := decodeByte s.cfg (chkEnabled s) b s.rx } := by
  unfold decoderStep
  cases ha : s.cmdActive with
  | true => exact .inl rfl
  | false =>
    cases hq : s.rxQueue with
    | nil => exact .inl rfl
    | cons b q => exact .inr ⟨b, q, rfl, rfl, rfl⟩

/-- ReadingChecksum is entered from ReadingPayload and in checksum mode only. -/
theorem ByteEffect.enters {nCap : Nat} {chk : Bool} {b : Byte} {r r' : Rx} (h : ByteEffect nCap chk b r r')
    (hp : r'.phase = .readingChecksum) (hn : r.phase ≠ .readingChecksum) : r.phase = .readingPayload ∧ chk = true := by
  cases h with
  | dropped => exact absurd hp hn
  | fieldBegun hr hc => exact ⟨hr, hc⟩
  | stored | truncated | fieldStored => exact absurd hp hn
  | started | completed | cutOff | fieldOverflowed => cases hp

/-- A checksum byte is held only where one was held before or the decoder was in ReadingChecksum. -/
theorem ByteEffect.held {nCap : Nat} {chk : Bool} {b : Byte} {r r' : Rx} (h : ByteEffect nCap chk b r r')
    (hl : 0 < r'.chkLen) : r.phase = .readingChecksum ∨ 0 < r.chkLen := by
  cases h with
  | started | fieldBegun => cases hl
  | fieldStored hp => exact .inl hp
  | dropped | completed | stored | truncated | cutOff | fieldOverflowed => exact .inr hl

/-- Whatever happens to the decoder state, other than by the decoder: the field is as it was, or it is empty. -/
theorem RxWrite.field {s t : State} {e : Event} (h : RxWrite s e t) :
    (e = .decoderStep ∧ t = decoderStep s) ∨ (t.rx.phase = s.rx.phase ∧ t.rx.chkLen = s.rx.chkLen) ∨
    (t.rx.phase = .idle ∧ t.rx.chkLen = 0) := by
  cases h with
  | unchanged hrx => exact .inr (.inl (by simp [hrx]))
  | decoder => exact .inl ⟨rfl, rfl⟩
  | rearmed hrx => exact .inr (.inr (by simp [hrx, rearm]))
  | verified v hrx => exact .inr (.inl (by simp [hrx]))
  | reset => exact .inr (.inr ⟨rfl, rfl⟩)

theorem takeEvent_chkEnabled (s : State) : chkEnabled (takeEvent s) = chkEnabled s := by
  simp [chkEnabled]

/-- Entering ReadingChecksum is a decoder step's, from ReadingPayload and in checksum mode. -/
theorem step_enters_field {s t : State} (h : step s = .next t) (hp : t.rx.phase = .readingChecksum)
    (hn : s.rx.phase ≠ .readingChecksum) :
    nextEvent s = .decoderStep ∧ s.rx.phase = .readingPayload ∧ chkEnabled s = true := by
  rw [← takeEvent_rx] at hn ⊢
  rcases (rxWrite_of_step h).field with ⟨he, rfl⟩ | ⟨hs, _⟩ | ⟨hs, _⟩
  · refine ⟨he, ?_⟩
    rcases decoderStep_cases (takeEvent s) with hd | ⟨b, q, _, _, hd⟩ <;> rw [hd] at hp
    · exact absurd hp hn
    · rw [← takeEvent_chkEnabled]
      exact (byteEffect_decodeByte ..).enters hp hn
  · exact absurd (hs.symm.trans hp) hn
  · cases hs.symm.trans hp

/-- A step holds checksum bytes only where the state before it did or was in ReadingChecksum. -/
theorem step_holds_field {s t : State} (h : step s = .next t) (hl : 0 < t.rx.chkLen) :
    s.rx.phase = .readingChecksum ∨ 0 < s.rx.chkLen := by
  rw [← takeEvent_rx]
  rcases (rxWrite_of_step h).field with ⟨_, rfl⟩ | ⟨_, hs⟩ | ⟨_, hs⟩
  · rcases decoderStep_cases (takeEvent s) with hd | ⟨b, q, _, _, hd⟩ <;> rw [hd] at hl
    · exact .inr hl
    · exact (byteEffect_decodeByte ..).held hl
  · exact .inr (hs ▸ hl)
  · exact absurd hl (by simp [hs])

/-- Settles O60: where the step enters ReadingChecksum the record is taken anew and CHK_EN was 1; anywhere else the record
stands, and what it is said of held before the step. -/
theorem checksumFieldsBeginInChecksumMode : Obligations.ChecksumFieldsBeginInChecksumMode := by
  refine ⟨fun s t g hg h ht => ?_, fun s t h hp hn => ?_, fun c now d g h => ?_⟩
  · unfold entryMode
    split_ifs with hin
    · exact (step_enters_field h hin.1 hin.2).2.2
    · refine hg ?_
      rcases ht with hp | hl
      · exact .inl (not_not.mp (not_and.mp hin hp))
      · exact step_holds_field h hl
  · obtain ⟨he, hr, _⟩ := step_enters_field h hp hn
    exact ⟨he, hr⟩
  · rcases h with h | h <;> cases h

end Sys2Proof.Machine

/-! ## The invariant outside the sequencer (10_state.md R49)

`State.Inv` reads neither CMD_STATUS, the transmit registers nor the environment (`State.Inv.frame`); the host's writes, the
decoder and a reset are shown to keep the part each of them touches. -/

namespace Sys2Proof.Machine

/-- The fields of the state that the invariant does not read are free. -/
theorem State.Inv.frame {s : State} (h : s.Inv) (cmdStatus : CmdStatus) (txLen : Half) (txNum : Word)
    (cmdLen chkValue : Half) (now : Word) (rxQueue : List Byte) (trace : List PortAct) (rdata : Word)
    (pending : List Event) (draws : Nat) :
    State.Inv { s with
      cmdStatus := cmdStatus, txLen := txLen, txNum := txNum, cmdLen := cmdLen, chkValue := chkValue, now := now,
      rxQueue := rxQueue, trace := trace, rdata := rdata, pending := pending, draws := draws } :=
  { h with seq := { h.seq with } }

theorem State.Inv.setCmdStatus {s : State} (h : s.Inv) (c : Cause) (o : Byte) : (setCmdStatus c o s).Inv :=
  h.frame ..

theorem State.Inv.dataWrite {s t : State} (h : s.Inv) (hd : DataWrite s t) : t.Inv := by
  obtain ⟨ctrl, txLen, txNum, txBuf, cmdLen, cmdBuf, hc, ht, hd⟩ := hd
  obtain ⟨htx, hrx, hchk, hcmd, hresp⟩ := (memory_wf_iff s).mp h.memory
  have hmem := (memory_wf_iff { s with txBuf := txBuf, cmdBuf := cmdBuf }).mpr
    ⟨ht.trans htx, hrx, hchk, hd.trans hcmd, hresp⟩
  exact { h with memory := hmem, chkEn := fun he => (hc he).elim id h.chkEn, seq := { h.seq with } }

/-- Any consistent decoder state of the right capacities may stand in for the one that is there. -/
theorem State.Inv.setRx {s : State} (h : s.Inv) {r : Rx} (hr : r.Inv s.cfg.nCap)
    (hb : r.buf.length = s.rx.buf.length) (hk : r.chk.length = s.rx.chk.length) : State.Inv { s with rx := r } := by
  obtain ⟨htx, hrx, hchk, hcmd, hresp⟩ := (memory_wf_iff s).mp h.memory
  have hmem := (memory_wf_iff { s with rx := r }).mpr ⟨htx, hb.trans hrx, hk.trans hchk, hcmd, hresp⟩
  exact { h with memory := hmem, rx := hr, seq := { h.seq with } }

theorem rearm_inv (nCap : Nat) (r : Rx) : (rearm r).Inv nCap := by
  constructor <;> simp [rearm]

theorem verified_inv {nCap : Nat} {r : Rx} (h : r.Inv nCap) (hp : r.phase = .frameComplete) (v : VerifyReg) :
    Rx.Inv nCap { r with verify := v } :=
  { h with verify_cur := fun _ => hp }

/-- Before the frame is complete RX_CHK_OVF and VERIFY.VALID are 0 (R49). -/
theorem Rx.Inv.unfinished {nCap : Nat} {r : Rx} (h : r.Inv nCap) (hp : r.phase ≠ .frameComplete) :
    r.chkOvf = false ∧ r.verify.valid = false :=
  ⟨Bool.eq_false_iff.mpr fun ho => hp (h.ovf_locked ho).1, Bool.eq_false_iff.mpr fun hv => hp (h.verify_cur hv)⟩

/-- Every change a received byte makes keeps the decoder state consistent. -/
theorem ByteEffect.inv {nCap : Nat} {chk : Bool} {b : Byte} {r r' : Rx} (he : ByteEffect nCap chk b r r')
    (h : r.Inv nCap) : r'.Inv nCap := by
  cases he with
  | dropped => exact h
  | started hp =>
    obtain ⟨_, hv⟩ := h.unfinished hp
    constructor <;> simp [startFrame, hv]
  | fieldBegun hp =>
    obtain ⟨ho, hv⟩ := h.unfinished (by simp [hp])
    exact { h with
      idle := nofun, chkLen_le := Nat.zero_le 5, field_phase := nofun
      ovf_locked := by simp [ho], verify_cur := by simp [hv] }
  | completed hp =>
    obtain ⟨ho, _⟩ := h.unfinished (by rcases hp with hp | hp <;> simp [hp])
    exact { h with
      idle := nofun, field_phase := fun _ => .inr rfl, ovf_locked := by simp [ho], verify_cur := fun _ => rfl }
  | stored hp hl =>
    exact { h with
      idle := by simp [hp], len_le := hl, trunc_full := fun ht => absurd (h.trunc_full ht) (Nat.ne_of_lt hl) }
  | truncated hp hl =>
    exact { h with idle := by simp [hp], trunc_full := fun _ => Nat.le_antisymm h.len_le hl }
  | cutOff hp hl =>
    obtain ⟨ho, _⟩ := h.unfinished (by simp [hp])
    exact { h with
      idle := nofun, field_phase := fun _ => .inr rfl, trunc_full := fun _ => Nat.le_antisymm h.len_le hl
      ovf_locked := by simp [ho], verify_cur := fun _ => rfl }
  | fieldStored hp hl =>
    obtain ⟨ho, _⟩ := h.unfinished (by simp [hp])
    exact { h with
      idle := by simp [hp], chkLen_le := hl, field_phase := fun _ => .inl hp, ovf_locked := by simp [ho] }
  | fieldOverflowed hp hl =>
    exact { h with
      idle := nofun, field_phase := fun _ => .inr rfl
      ovf_locked := fun _ => ⟨rfl, Nat.le_antisymm h.chkLen_le hl⟩, verify_cur := fun _ => rfl }

theorem State.Inv.decoderStep {s : State} (h : s.Inv) : (decoderStep s).Inv := by
  rcases decoderStep_cases s with he | ⟨b, q, _, _, he⟩ <;> rw [he]
  · exact h
  · obtain ⟨hb, hk⟩ := decodeByte_lengths s.cfg (chkEnabled s) b s.rx
    exact (h.setRx ((byteEffect_decodeByte ..).inv h.rx) hb hk).frame ..

theorem powerOn_inv {c : Config} (now : Word) (d : Nat) (h : c.wf = true) : (State.powerOn c now d).Inv where
  config := h
  memory := powerOn_wf c now d
  chkEn := nofun
  rx := rearm_inv c.nCap (State.powerOn c now d).rx
  busy := rfl
  sending := rfl
  cmdActive := rfl
  modeHigh := rfl
  speedIdx := by
    obtain ⟨_, _, _, _, hi⟩ := bounds_of_config_wf h
    exact hi
  respLen := Nat.zero_le _
  respRun := nofun
  probe := ⟨rfl, Nat.zero_le _⟩
  setSpeed := nofun
  seq := by constructor <;> simp [State.powerOn, inCommandMode, Op.commandMode]

theorem State.Inv.resetStep {s : State} (h : s.Inv) : (resetStep s).Inv :=
  (powerOn_inv s.now s.draws h.config).frame ..

end Sys2Proof.Machine

/-! ## The invariant inside a command (10_state.md R47, R49)

While a command-mode command runs the invariant falls into two parts: `Running`, which holds all along, also between two
primitives of one step, and `Positioned`, which holds where the sequencer is held. Each piece of the pseudocode is then a
lemma "if it begins in a `Running` state, it ends in a state with the invariant". -/

namespace Sys2Proof.Machine

/-- What holds whatever the running command is and whether one runs. -/
structure Settled (s : State) : Prop where
  config   : s.cfg.wf = true
  memory   : Memory.wf s = true
  chkEn    : s.ctrl.chkEn = true → s.cfg.chkAvail = true
  rx       : s.rx.Inv s.cfg.nCap
  speedIdx : s.link.speedIdx < s.cfg.k
  respLen  : s.link.resp.len ≤ s.cfg.respCap
  probe    : (s.probe.found && s.probe.overflow) = false ∧ s.probe.index.toNat ≤ s.cfg.k

theorem State.Inv.settled {s : State} (h : s.Inv) : Settled s := { h with }

/-- What holds all along while a command-mode command runs. -/
structure Running (s : State) : Prop extends Settled s where
  active      : inCommandMode s = true
  busy        : s.busy = true
  sending     : s.link.sending = false
  cmdActive   : s.cmdActive = true
  setSpeed    : s.seq.op = some .setSpeedSafely → s.setSpeed.valid = false
  ownText     : (s.seq.op = some .sendCommand ∨ s.seq.op = some .probe) →
    1 ≤ s.seq.snap.bytes.length ∧ s.seq.snap.bytes.length ≤ s.cfg.cmdCap
  sendCommand : s.seq.op = some .sendCommand → s.seq.stage = .direct
  loops       : (s.seq.op = some .probe ∨ s.seq.op = some .detectSpeed ∨ s.seq.op = some .forceDefault) →
    s.seq.stage = .search
  target_lt   : s.seq.op = some .setSpeedSafely → s.seq.snap.arg.toNat < s.cfg.k
  ack         : s.seq.op = some .setSpeedSafely → s.seq.stage ≠ .direct → s.seq.ack = (s.seq.stage == .follow)

/-- What holds of the primitive a running command is held at. -/
structure Positioned (s : State) : Prop where
  modeHigh    : s.link.modeHigh = !s.seq.point.lineLow
  respRun     : s.seq.point.inSendCommand = true → s.link.resp.valid = false ∧ s.link.resp.ovf = false
  commandMode : s.seq.point ≠ .settle ∧ s.seq.point ≠ .txFrame
  textByte    : s.seq.point = .txText → s.seq.k < (runningText s).length
  follow      : s.seq.stage = .follow → s.seq.point = .reconfPre ∨ s.seq.point = .reconfPost
  direct      : s.seq.stage = .direct → s.seq.point ≠ .reconfPre ∧ s.seq.point ≠ .reconfPost
  index_lt    : s.seq.stage = .search → s.seq.point ≠ .start → s.seq.i < s.cfg.k
  setStart    : s.seq.op = some .setSpeedSafely → s.seq.point = .start → s.seq.stage = .direct

theorem op_of_inCommandMode {s : State} (h : inCommandMode s = true) :
    ∃ op, s.seq.op = some op ∧ op.commandMode = true := by
  simpa [inCommandMode, Option.any_eq_true] using h

theorem inCommandMode_of_op {s : State} {op : Op} (h : s.seq.op = some op) : inCommandMode s = op.commandMode := by
  rw [inCommandMode, h, Option.any_some]

theorem State.Inv.running {s : State} (h : s.Inv) (ha : inCommandMode s = true) : Running s ∧ Positioned s := by
  obtain ⟨op, ho, hm⟩ := op_of_inCommandMode ha
  have htx : op ≠ .txSend := by rintro rfl; cases hm
  have hq := h.seq
  exact ⟨{ h.settled with
      active := ha
      busy := by rw [h.busy, ho]; rfl
      sending := by rw [h.sending, ho]; simp [htx]
      cmdActive := h.cmdActive.trans ha
      setSpeed := h.setSpeed
      ownText := hq.ownText, sendCommand := hq.sendCommand, loops := hq.loops, target_lt := hq.target_lt, ack := hq.ack },
    { modeHigh := by rw [h.modeHigh, ha, Bool.true_and]
      respRun := h.respRun ha
      commandMode := hq.commandMode ha, textByte := hq.textByte ha, follow := hq.follow ha, direct := hq.direct ha
      index_lt := hq.index_lt ha, setStart := hq.setStart }⟩

/-- The two parts make the invariant. -/
theorem Running.inv {s : State} (h : Running s) (hp : Positioned s) : s.Inv := by
  have ha := h.active
  obtain ⟨op, ho, hm⟩ := op_of_inCommandMode ha
  have hset : op ≠ .resetSettle := by rintro rfl; cases hm
  have htx : op ≠ .txSend := by rintro rfl; cases hm
  exact { h with
    busy := by rw [h.busy, ho]; rfl
    sending := by rw [h.sending, ho]; simp [htx]
    cmdActive := h.cmdActive.trans ha.symm
    modeHigh := by rw [hp.modeHigh, ha, Bool.true_and]
    respRun := fun _ => hp.respRun
    seq := { h, hp with
      settle := fun he => absurd (Option.some.inj (ho.symm.trans he)) hset
      txSend := fun he => absurd (Option.some.inj (ho.symm.trans he)) htx
      commandMode := fun _ => hp.commandMode
      textByte := fun _ => hp.textByte
      follow := fun _ => hp.follow
      direct := fun _ => hp.direct
      index_lt := fun _ => hp.index_lt } }

/-- With no command running nothing else of the invariant is left to say but that the flags are down and the line is high. -/
theorem Settled.inv_of_idle {s : State} (h : Settled s) (ho : s.seq.op = none) (hb : s.busy = false)
    (hs : s.link.sending = false) (hc : s.cmdActive = false) (hm : s.link.modeHigh = true) : s.Inv := by
  have ha : inCommandMode s = false := by rw [inCommandMode, ho]; rfl
  exact { h with
    busy := by rw [hb, ho]; rfl
    sending := by rw [hs, ho]; rfl
    cmdActive := hc.trans ha.symm
    modeHigh := by rw [hm, ha]; rfl
    respRun := by simp [ha]
    setSpeed := by simp [ho]
    seq := by constructor <;> simp [ha, ho] }

/-! ### What each operation keeps of a running command -/

theorem Running.sendByte {s : State} (h : Running s) (b : Byte) : Running (sendByte b s) := { h with }
theorem Running.emit {s : State} (h : Running s) (d : Diag) : Running (emit d s) := { h with }
theorem Running.holdAt {s : State} (h : Running s) (p : Point) : Running (holdAt p s) := { h with }
theorem Running.startText {s : State} (h : Running s) : Running (startText s) := { h with }
theorem Running.nextByte {s : State} (h : Running s) : Running (nextByte s) := { h with }
theorem Running.startWait {s : State} (h : Running s) (p : Point) : Running (startWait p s) := { h with }
theorem Running.setMode {s : State} (h : Running s) (m : Bool) : Running (setMode m s) := { h with }
theorem Running.setIndex {s : State} (h : Running s) (i : Nat) : Running (setIndex i s) := { h with }
theorem Running.setOvf {s : State} (h : Running s) (o : Bool) : Running (setOvf o s) := { h with }
theorem Running.invalidateProbe {s : State} (h : Running s) : Running (invalidateProbe s) := { h with }
theorem Running.publishResponse {s : State} (h : Running s) : Running (publishResponse s) := { h with }

theorem Running.clearResponse {s : State} (h : Running s) : Running (clearResponse s) :=
  { h with respLen := Nat.zero_le _ }

theorem Running.storeResponse {s : State} (h : Running s) (b : Byte) (q : List Byte)
    (hl : s.link.resp.len ≠ s.cfg.respCap) : Running (storeResponse b q s) :=
  { h with memory := storeResponse_wf b q h.memory, respLen := Nat.lt_of_le_of_ne h.respLen hl }

theorem Running.reconfigureTo {s : State} (h : Running s) {i : Nat} (hi : i < s.cfg.k) : Running (reconfigureTo i s) :=
  { h with speedIdx := hi }

theorem Running.setProbe {s : State} (h : Running s) {p : ProbeReg} (hf : (p.found && p.overflow) = false)
    (hi : p.index.toNat ≤ s.cfg.k) : Running (setProbe p s) :=
  { h with probe := ⟨hf, hi⟩ }

/-- SET_SPEED_SAFELY after its own SendCommand: the stage is what the acknowledgement says (44_baud_prober.md R256). -/
theorem Running.branch {s : State} (h : Running s) (ho : s.seq.op = some .setSpeedSafely) {a : Bool} {g : Stage}
    (hg : a = (g == .follow)) : Running (setStage g (setAck a s)) :=
  { h with sendCommand := by simp [ho], loops := by simp [ho], ack := fun _ _ => hg }

/-! ### Where the sequencer is held -/

/-- A SendCommand may begin or be under way here: the stage is not `follow`, and in a loop the index is in the table. -/
def InSendStage (s : State) : Prop := s.seq.stage ≠ .follow ∧ (s.seq.stage = .search → s.seq.i < s.cfg.k)

/-- A Reconf may begin or be under way here: the stage is not `direct`, and in a loop the index is in the table. -/
def InReconfStage (s : State) : Prop := s.seq.stage ≠ .direct ∧ (s.seq.stage = .search → s.seq.i < s.cfg.k)

/-- RESP_STATUS.VALID and OVF are 0. -/
def ResponseClear (s : State) : Prop := s.link.resp.valid = false ∧ s.link.resp.ovf = false

theorem Running.inv_in_send {s : State} (h : Running s) (hp : s.seq.point.inSendCommand = true)
    (hm : s.link.modeHigh = !s.seq.point.lineLow) (ht : s.seq.point = .txText → s.seq.k < (runningText s).length)
    (hg : InSendStage s) (hr : ResponseClear s) : s.Inv :=
  h.inv {
    modeHigh := hm
    respRun := fun _ => hr
    commandMode := by constructor <;> rintro he <;> simp [he, Point.inSendCommand] at hp
    textByte := ht
    follow := fun he => absurd he hg.1
    direct := fun _ => by constructor <;> rintro he <;> simp [he, Point.inSendCommand] at hp
    index_lt := fun he _ => hg.2 he
    setStart := fun _ he => by simp [he, Point.inSendCommand] at hp }

theorem Running.inv_in_reconf {s : State} (h : Running s) (hp : s.seq.point = .reconfPre ∨ s.seq.point = .reconfPost)
    (hm : s.link.modeHigh = true) (hg : InReconfStage s) : s.Inv :=
  h.inv {
    modeHigh := by rcases hp with hp | hp <;> rw [hp, hm] <;> rfl
    respRun := by rcases hp with hp | hp <;> simp [hp, Point.inSendCommand]
    commandMode := by rcases hp with hp | hp <;> simp [hp]
    textByte := by rcases hp with hp | hp <;> simp [hp]
    follow := fun _ => hp
    direct := fun he => absurd he hg.1
    index_lt := fun he _ => hg.2 he
    setStart := by rcases hp with hp | hp <;> simp [hp] }

theorem Positioned.inSendStage {s : State} (hp : Positioned s) (h : s.seq.point.inSendCommand = true) :
    InSendStage s ∧ ResponseClear s := by
  refine ⟨⟨fun hg => ?_, fun hg => hp.index_lt hg fun he => ?_⟩, hp.respRun h⟩
  · rcases hp.follow hg with he | he <;> simp [he, Point.inSendCommand] at h
  · simp [he, Point.inSendCommand] at h

theorem Positioned.inReconfStage {s : State} (hp : Positioned s)
    (h : s.seq.point = .reconfPre ∨ s.seq.point = .reconfPost) : InReconfStage s ∧ s.link.modeHigh = true := by
  refine ⟨⟨fun hg => ?_, fun hg => hp.index_lt hg ?_⟩, ?_⟩
  · obtain ⟨h1, h2⟩ := hp.direct hg
    exact h.elim h1 h2
  · rcases h with h | h <;> simp [h]
  · rw [hp.modeHigh]
    rcases h with h | h <;> rw [h] <;> rfl

/-! ### The pseudocode, piece by piece -/

/-- A wait keeps the invariant if the state held at it has it and what follows the wait gives it. -/
theorem beginWait_inv {p : Point} {t : Word} {after : State → State} {s : State} (held : (startWait p s).Inv)
    (passed : (after (startWait p s)).Inv) : (beginWait p t after s).Inv := by
  rcases beginWait_cases p t after s with ⟨_, h⟩ | ⟨_, h⟩ <;> rw [h]
  · exact passed
  · exact held

theorem resumeWait_inv {t : Word} {after : State → State} {s : State} (held : s.Inv) (passed : (after s).Inv) :
    (resumeWait t after s).Inv := by
  rcases resumeWait_cases t after s with ⟨_, h⟩ | ⟨_, h⟩ <;> rw [h]
  · exact passed
  · exact held

theorem Running.holdAt_drain {s : State} (h : Running s) (hm : s.link.modeHigh = false) (hg : InSendStage s)
    (hr : ResponseClear s) : (Machine.holdAt .drain s).Inv :=
  (h.holdAt _).inv_in_send rfl hm nofun hg hr

theorem Running.enterCmdTime {s : State} (h : Running s) (hm : s.link.modeHigh = false) (hg : InSendStage s)
    (hr : ResponseClear s) : (enterCmdTime s).Inv :=
  beginWait_inv ((h.startWait _).inv_in_send rfl hm nofun hg hr) ((h.startWait _).holdAt_drain hm hg hr)

theorem Running.enterText {s : State} (h : Running s) (hm : s.link.modeHigh = false) (hg : InSendStage s)
    (hr : ResponseClear s) : (enterText s).Inv := by
  unfold Machine.enterText
  split
  · exact h.enterCmdTime hm hg hr
  · next he =>
    have hpos : 0 < (runningText s).length := List.length_pos_iff.mpr (by simpa using he)
    exact h.startText.inv_in_send rfl hm (fun _ => hpos) hg hr

theorem Running.beginSendCommand {s : State} (h : Running s) (hg : InSendStage s) : (beginSendCommand s).Inv :=
  have hc := h.clearResponse.setMode false
  beginWait_inv ((hc.startWait _).inv_in_send rfl rfl nofun hg ⟨rfl, rfl⟩) ((hc.startWait _).enterText rfl hg ⟨rfl, rfl⟩)

theorem Running.endCommandMode {s : State} (h : Running s) (hm : s.link.modeHigh = true) : (endCommandMode s).Inv :=
  Settled.inv_of_idle { h with } rfl rfl h.sending rfl hm

theorem Running.endSetSpeed {s : State} (h : Running s) (hm : s.link.modeHigh = true) : (endSetSpeed s).Inv :=
  Settled.inv_of_idle { h with } rfl rfl h.sending rfl hm

theorem Running.afterReconf {s : State} (h : Running s) (hm : s.link.modeHigh = true) (hg : InReconfStage s) :
    (afterReconf s).Inv := by
  unfold Machine.afterReconf
  cases hst : s.seq.stage with
  | follow => exact h.endSetSpeed hm
  | direct => exact absurd hst hg.1
  | search => exact h.beginSendCommand ⟨by simp [hst], hg.2⟩

/-- Reconf's index is in the table: the loop's, or the target of SET_SPEED_SAFELY, the one command with a `follow`. -/
theorem Running.reconfIndex_lt {s : State} (h : Running s) (hg : InReconfStage s) : reconfIndex s < s.cfg.k := by
  unfold reconfIndex
  cases hst : s.seq.stage with
  | follow =>
    obtain ⟨op, ho, hm⟩ := op_of_inCommandMode h.active
    cases op with
    | setSpeedSafely => exact h.target_lt ho
    | sendCommand => cases hst.symm.trans (h.sendCommand ho)
    | probe => cases hst.symm.trans (h.loops (.inl ho))
    | detectSpeed => cases hst.symm.trans (h.loops (.inr (.inl ho)))
    | forceDefault => cases hst.symm.trans (h.loops (.inr (.inr ho)))
    | resetSettle | txSend => cases hm
  | direct => exact absurd hst hg.1
  | search => exact hg.2 hst

theorem Running.switchSpeed {s : State} (h : Running s) (hm : s.link.modeHigh = true) (hg : InReconfStage s) :
    (switchSpeed s).Inv :=
  have hc := (h.reconfigureTo (h.reconfIndex_lt hg)).startWait .reconfPost
  beginWait_inv (hc.inv_in_reconf (.inr rfl) hm hg) (hc.afterReconf hm hg)

theorem Running.beginReconf {s : State} (h : Running s) (hm : s.link.modeHigh = true) (hg : InReconfStage s) :
    (beginReconf s).Inv :=
  have hc := h.startWait .reconfPre
  beginWait_inv (hc.inv_in_reconf (.inl rfl) hm hg) (hc.switchSpeed hm hg)

theorem Running.afterProbeLoop {s : State} (h : Running s) (hm : s.link.modeHigh = true) : (afterProbeLoop s).Inv := by
  unfold Machine.afterProbeLoop
  obtain ⟨op, ho, _⟩ := op_of_inCommandMode h.active
  rw [ho]
  cases op with
  | detectSpeed => exact (h.emit _).endCommandMode hm
  | setSpeedSafely => exact (h.emit _).endSetSpeed hm
  | probe | forceDefault | sendCommand | resetSettle | txSend => exact h.endCommandMode hm

/-- The next index of a loop over the table. -/
theorem Running.nextIndex {s : State} (h : Running s) (hm : s.link.modeHigh = true) (hst : s.seq.stage = .search)
    {i : Nat} (hi : i < s.cfg.k) : (Machine.beginReconf (Machine.setIndex i s)).Inv :=
  (h.setIndex i).beginReconf hm ⟨by simp [hst], fun _ => hi⟩

theorem Running.probeResult {s : State} (h : Running s) (hm : s.link.modeHigh = true) (hst : s.seq.stage = .search)
    (hi : s.seq.i < s.cfg.k) : (probeResult s).Inv := by
  have small {n : Nat} (hn : n ≤ s.cfg.k) : (BitVec.ofNat 8 n).toNat ≤ s.cfg.k :=
    (BitVec.toNat_ofNat ..).trans_le ((Nat.mod_le _ _).trans hn)
  unfold Machine.probeResult
  split_ifs with _ _ hn
  · exact (h.setProbe rfl (small hi.le)).afterProbeLoop hm
  · exact (h.setProbe rfl (small hi.le)).afterProbeLoop hm
  · exact h.nextIndex hm hst hn
  · exact (h.setProbe rfl (small le_rfl)).afterProbeLoop hm

theorem Running.forceDefaultNext {s : State} (h : Running s) (hm : s.link.modeHigh = true)
    (hst : s.seq.stage = .search) : (forceDefaultNext s).Inv := by
  unfold Machine.forceDefaultNext
  split_ifs with hn
  · exact h.nextIndex hm hst hn
  · exact h.endCommandMode hm

theorem Settled.k_pos {s : State} (h : Settled s) : 0 < s.cfg.k := by
  obtain ⟨_, _, _, hk, _⟩ := bounds_of_config_wf h.config
  exact hk.1

theorem Running.beginProbeLoop {s : State} (h : Running (Machine.setStage .search s)) (hm : s.link.modeHigh = true) :
    (beginProbeLoop s).Inv :=
  Running.nextIndex (s := Machine.setStage .search (Machine.invalidateProbe s)) { h with } hm rfl h.k_pos

theorem Running.setSpeedNext {s : State} (h : Running s) (hm : s.link.modeHigh = true)
    (ho : s.seq.op = some .setSpeedSafely) : (setSpeedNext s).Inv := by
  unfold Machine.setSpeedNext
  dsimp only
  split_ifs with ha
  · exact (h.branch ho ha).beginReconf hm ⟨nofun, nofun⟩
  · exact Running.beginProbeLoop (h.branch ho (Bool.eq_false_iff.mpr ha)) hm

/-- What follows a SendCommand, whichever command ran it. -/
theorem Running.afterSendCommand {s : State} (h : Running s) (hm : s.link.modeHigh = true) (hg : InSendStage s) :
    (afterSendCommand s).Inv := by
  unfold Machine.afterSendCommand
  obtain ⟨op, ho, _⟩ := op_of_inCommandMode h.active
  rw [ho]
  have search (hl : op = .probe ∨ op = .detectSpeed ∨ op = .forceDefault) : s.seq.stage = .search :=
    h.loops (by simpa [ho] using hl)
  cases op with
  | probe | detectSpeed => exact h.probeResult hm (search (by simp)) (hg.2 (search (by simp)))
  | forceDefault => exact h.forceDefaultNext hm (search (by simp))
  | setSpeedSafely =>
    cases hst : s.seq.stage with
    | direct => exact h.setSpeedNext hm ho
    | follow => exact absurd hst hg.1
    | search => exact h.probeResult hm hst (hg.2 hst)
  | sendCommand | resetSettle | txSend => exact h.endCommandMode hm

theorem Running.returnSendCommand {s : State} (h : Running s) (hm : s.link.modeHigh = true) (hg : InSendStage s) :
    (returnSendCommand s).Inv :=
  h.publishResponse.afterSendCommand hm hg

theorem Running.endDrain {s : State} (h : Running s) (o : Bool) (hg : InSendStage s) (hr : ResponseClear s) :
    (endDrain o s).Inv :=
  have hc := ((h.setOvf o).setMode true).startWait .setHigh
  beginWait_inv (hc.inv_in_send rfl rfl nofun hg hr) (hc.returnSendCommand rfl hg)

theorem Running.drainStep {s : State} (h : Running s) (hp : Positioned s) (hpt : s.seq.point = .drain) :
    (drainStep s).Inv := by
  obtain ⟨hg, hr⟩ := hp.inSendStage (by rw [hpt]; rfl)
  rcases drainStep_cases s with ⟨_, he⟩ | ⟨b, q, _, _, he⟩ | ⟨b, q, _, hl, he⟩ <;> rw [he]
  · exact h.endDrain false hg hr
  · exact h.endDrain true hg hr
  · exact (h.storeResponse b q hl).inv { hp with }

/-- A command's first sequencer step. -/
theorem Running.startCommand {s : State} (h : Running s) (hp : Positioned s) (hpt : s.seq.point = .start) :
    (startCommand s).Inv := by
  have hm : s.link.modeHigh = true := by rw [hp.modeHigh, hpt]; rfl
  unfold Machine.startCommand
  obtain ⟨op, ho, hop⟩ := op_of_inCommandMode h.active
  rw [ho]
  have own (hd : s.seq.stage = .direct) : (Machine.beginSendCommand s).Inv :=
    h.beginSendCommand ⟨by simp [hd], by simp [hd]⟩
  have loop (hst : s.seq.stage = .search) : (Machine.beginProbeLoop s).Inv :=
    Running.beginProbeLoop (by rw [← hst]; exact h) hm
  cases op with
  | sendCommand => exact own (h.sendCommand ho)
  | setSpeedSafely => exact own (hp.setStart ho hpt)
  | probe => exact loop (h.loops (.inl ho))
  | detectSpeed => exact loop (h.loops (.inr (.inl ho)))
  | forceDefault => exact h.nextIndex hm (h.loops (.inr (.inr ho))) h.k_pos
  | resetSettle | txSend => cases hop

/-- A sequencer step of a command-mode command, from whichever primitive it is held at. -/
theorem Running.sequencerAdvance {s : State} (h : Running s) (hp : Positioned s) : (sequencerAdvance s).Inv := by
  have hs : s.Inv := h.inv hp
  have hm := hp.modeHigh
  unfold Machine.sequencerAdvance
  cases hpt : s.seq.point with
  | start => exact h.startCommand hp hpt
  | settle => exact absurd hpt hp.commandMode.1
  | txFrame | txText => exact hs
  | reconfPre =>
    obtain ⟨hg, hm⟩ := hp.inReconfStage (.inl hpt)
    exact resumeWait_inv hs (h.switchSpeed hm hg)
  | reconfPost =>
    obtain ⟨hg, hm⟩ := hp.inReconfStage (.inr hpt)
    exact resumeWait_inv hs (h.afterReconf hm hg)
  | setLow =>
    rw [hpt] at hm
    obtain ⟨hg, hr⟩ := hp.inSendStage (by rw [hpt]; rfl)
    exact resumeWait_inv hs (h.enterText hm hg hr)
  | cmdTime =>
    rw [hpt] at hm
    obtain ⟨hg, hr⟩ := hp.inSendStage (by rw [hpt]; rfl)
    exact resumeWait_inv hs (h.holdAt_drain hm hg hr)
  | drain => exact h.drainStep hp hpt
  | setHigh =>
    rw [hpt] at hm
    obtain ⟨hg, _⟩ := hp.inSendStage (by rw [hpt]; rfl)
    exact resumeWait_inv hs (h.returnSendCommand hm hg)

/-- Outside the command-mode commands the mode line is high. -/
theorem State.Inv.modeHigh_of_not_inCommandMode {s : State} (h : s.Inv) (ha : inCommandMode s = false) :
    s.link.modeHigh = true := by
  rw [h.modeHigh, ha]; rfl

theorem State.Inv.endSettle {s : State} (h : s.Inv) (ho : s.seq.op = some .resetSettle) : (endSettle s).Inv := by
  have ha : inCommandMode s = false := inCommandMode_of_op ho
  have hs : s.link.sending = false := by rw [h.sending, ho]; rfl
  exact Settled.inv_of_idle { h with } rfl rfl hs (h.cmdActive.trans ha) (h.modeHigh_of_not_inCommandMode ha)

theorem State.Inv.sequencerStep {s : State} (h : s.Inv) : (sequencerStep s).Inv := by
  unfold Machine.sequencerStep
  cases ho : s.seq.op with
  | none => exact h
  | some op =>
    dsimp only
    cases op with
    | resetSettle =>
      rw [Machine.sequencerAdvance, h.seq.settle ho]
      exact resumeWait_inv h (h.endSettle ho)
    | txSend =>
      rw [Machine.sequencerAdvance, (h.seq.txSend ho).1]
      exact h
    | sendCommand | probe | detectSpeed | forceDefault | setSpeedSafely =>
      obtain ⟨hr, hp⟩ := h.running (inCommandMode_of_op ho)
      exact hr.sequencerAdvance hp

/-! ### The transport's acceptance -/

/-- A byte on offer belongs to a running command: at `txFrame` to TX_SEND, at `txText` to a command-mode command. -/
theorem State.Inv.op_of_offered {s : State} (h : s.Inv) {b : Byte} (hb : offeredByte s = some b) :
    (s.seq.point = .txFrame → s.seq.op = some .txSend) ∧ (s.seq.point = .txText → inCommandMode s = true) := by
  cases ho : s.seq.op with
  | none => simp [offeredByte, ho] at hb
  | some op =>
    cases op with
    | resetSettle => simp [h.seq.settle ho]
    | txSend => simp [h.seq.txSend ho]
    | sendCommand | probe | detectSpeed | forceDefault | setSpeedSafely =>
      have ha := inCommandMode_of_op ho
      exact ⟨fun hp => absurd hp (h.seq.commandMode ha).2, fun _ => ha⟩

theorem State.Inv.afterFrameByte {s : State} (h : s.Inv) (ho : s.seq.op = some .txSend) : (afterFrameByte s).Inv := by
  have ha : inCommandMode s = false := inCommandMode_of_op ho
  unfold Machine.afterFrameByte
  split_ifs with hk
  · exact { h with seq := { h.seq with
      txSend := fun _ => ⟨(h.seq.txSend ho).1, hk⟩
      textByte := fun hc => absurd (ha.symm.trans hc) (by decide) } }
  · exact Settled.inv_of_idle { h with } rfl rfl rfl (h.cmdActive.trans ha) (h.modeHigh_of_not_inCommandMode ha)

theorem Running.afterTextByte {s : State} (h : Running s) (hp : Positioned s) (hpt : s.seq.point = .txText) :
    (afterTextByte s).Inv := by
  unfold Machine.afterTextByte
  split_ifs with hk
  · exact h.nextByte.inv { hp with textByte := fun _ => hk }
  · have hm := hp.modeHigh
    rw [hpt] at hm
    obtain ⟨hg, hr⟩ := hp.inSendStage (by rw [hpt]; rfl)
    exact h.enterCmdTime hm hg hr

theorem State.Inv.sendByte {s : State} (h : s.Inv) (b : Byte) : (sendByte b s).Inv := h.frame ..

theorem State.Inv.transportAccept {s : State} (h : s.Inv) : (transportAccept s).Inv := by
  rcases transportAccept_cases s with ⟨_, he⟩ | ⟨b, hb, hpt, he⟩ | ⟨b, hb, hpt, he⟩ <;> rw [he]
  · exact h
  · exact (h.sendByte b).afterFrameByte ((h.op_of_offered hb).1 hpt)
  · obtain ⟨hr, hp⟩ := (h.sendByte b).running ((h.op_of_offered hb).2 hpt)
    exact hr.afterTextByte hp hpt

/-! ### The acceptance of a command -/

/-- With BUSY 0 no command runs and every flag is at rest. -/
theorem State.Inv.idle {s : State} (h : s.Inv) (hb : s.busy = false) :
    s.link.sending = false ∧ s.cmdActive = false ∧ s.link.modeHigh = true := by
  have ho : s.seq.op = none := by simpa using h.busy.symm.trans hb
  have ha : inCommandMode s = false := by rw [inCommandMode, ho]; rfl
  exact ⟨by rw [h.sending, ho]; rfl, h.cmdActive.trans ha, h.modeHigh_of_not_inCommandMode ha⟩

theorem length_txFrame_pos (s : State) : 0 < (txFrame s).length := by
  unfold txFrame encodeFrame
  split <;> exact Nat.succ_pos _

theorem State.Inv.startTxSend {s : State} (h : s.Inv) (hb : s.busy = false) (o : Byte) :
    (startTxSend o (txFrame s) s).Inv := by
  obtain ⟨hs, hc, hm⟩ := h.idle hb
  have ha : inCommandMode (Machine.startTxSend o (txFrame s) s) = false := rfl
  exact { h with
    busy := rfl, sending := rfl, cmdActive := hc, modeHigh := hm, respRun := nofun, setSpeed := nofun
    seq := by constructor <;> simp [ha, length_txFrame_pos] }

/-- What an accepted command-mode command copies is legal for it (60_exceptions.md R301), and it begins in its own stage. -/
structure LegalStart (s : State) (op : Op) (g : Stage) (n : Snap) : Prop where
  mode     : op.commandMode = true
  ownText  : op = .sendCommand ∨ op = .probe → 1 ≤ n.bytes.length ∧ n.bytes.length ≤ s.cfg.cmdCap
  direct   : op = .sendCommand ∨ op = .setSpeedSafely → g = .direct
  search   : op = .probe ∨ op = .detectSpeed ∨ op = .forceDefault → g = .search
  target   : op = .setSpeedSafely → n.arg.toNat < s.cfg.k
  setSpeed : op = .setSpeedSafely → s.setSpeed.valid = false

theorem LegalStart.stage_ne_follow {s : State} {op : Op} {g : Stage} {n : Snap} (hl : LegalStart s op g n) :
    g ≠ .follow := by
  cases op with
  | sendCommand | setSpeedSafely => simp [hl.direct (by simp)]
  | probe | detectSpeed | forceDefault => simp [hl.search (by simp)]
  | resetSettle | txSend => cases hl.mode

theorem State.Inv.startCommandMode {s : State} (h : s.Inv) (hb : s.busy = false) {op : Op} {g : Stage} {n : Snap}
    (hl : LegalStart s op g n) (o : Byte) : (startCommandMode op o g n s).Inv := by
  obtain ⟨hs, _, hm⟩ := h.idle hb
  exact Running.inv (s := Machine.startCommandMode op o g n s) { h.settled with
      active := hl.mode
      busy := rfl, sending := hs, cmdActive := rfl
      setSpeed := fun he => hl.setSpeed (Option.some.inj he)
      ownText := fun he => hl.ownText (by simpa using he)
      sendCommand := fun he => hl.direct (.inl (Option.some.inj he))
      loops := fun he => hl.search (by simpa using he)
      target_lt := fun he => hl.target (Option.some.inj he)
      ack := fun he hd => absurd (hl.direct (.inr (Option.some.inj he))) hd }
    { modeHigh := hm
      respRun := nofun
      commandMode := ⟨nofun, nofun⟩
      textByte := nofun
      follow := fun he => absurd he hl.stage_ne_follow
      direct := fun _ => ⟨nofun, nofun⟩
      index_lt := fun _ he => absurd rfl he
      setStart := fun he _ => hl.direct (.inr (Option.some.inj he)) }

theorem length_commandText {s : State} (h : s.Inv) (hl : badCommandLength s = false) :
    1 ≤ (commandText s).length ∧ (commandText s).length ≤ s.cfg.cmdCap := by
  obtain ⟨_, _, _, hcmd, _⟩ := (memory_wf_iff s).mp h.memory
  simp only [badCommandLength, Bool.or_eq_false_iff, beq_eq_false_iff_ne, decide_eq_false_iff_not] at hl
  rw [commandText, List.length_take, hcmd]
  omega

/-- Every command's host step keeps the invariant. -/
theorem CommandStep.inv {s t : State} {i : Instr} (hx : CommandStep s i t) (h : s.Inv) : t.Inv := by
  cases hx with
  | status c => exact h.setCmdStatus ..
  | rearmed => exact (h.setRx (rearm_inv ..) rfl rfl).frame ..
  | computed => exact h.frame ..
  | verified hp => exact (h.setRx (verified_inv h.rx hp (verdict (chkEnabled s) s.rx)) rfl rfl).frame ..
  | txSend hb => exact h.startTxSend hb _
  | sendCommand hb hl =>
    refine h.startCommandMode hb ?_ _
    constructor <;> simp [Op.commandMode, length_commandText h hl]
  | probe hb hl =>
    refine h.startCommandMode hb ?_ _
    constructor <;> simp [Op.commandMode, length_commandText h hl]
  | detectSpeed hb | forceDefault hb =>
    refine h.startCommandMode hb ?_ _
    constructor <;> simp [Op.commandMode]
  | setSpeedSafely u hb hu =>
    have h' : State.Inv { s with setSpeed := { s.setSpeed with valid := false } } :=
      { h with setSpeed := fun _ => rfl, seq := { h.seq with } }
    refine h'.startCommandMode hb ?_ _
    constructor <;> simp [Op.commandMode, hu]

theorem State.Inv.hostWrite {s t : State} (h : s.Inv) {n : Nat} {a : Offset} {v : Word}
    (hw : hostWrite n a v s = .next t) : t.Inv := by
  rcases hostWrite_next hw with ⟨_, _, hi⟩ | hd
  · rcases issueCommand_next hi with ⟨c, rfl⟩ | ⟨i, _, hx⟩
    · exact h.setCmdStatus ..
    · exact hx.inv h
  · exact h.dataWrite hd

theorem State.Inv.perform {s t : State} (h : s.Inv) {e : Event} (hp : perform e s = .next t) : t.Inv := by
  cases e with
  | hostRead n a => rw [hostRead_next hp]; exact h.frame ..
  | hostWrite n a v => exact h.hostWrite hp
  | decoderStep => cases hp; exact h.decoderStep
  | sequencerStep => cases hp; exact h.sequencerStep
  | transportAccept => cases hp; exact h.transportAccept
  | transportDeliver | transportRequeue | clockAdvance => cases hp; exact h.frame ..
  | reset => cases hp; exact h.resetStep

theorem State.Inv.takeEvent {s : State} (h : s.Inv) : (takeEvent s).Inv := by
  unfold Machine.takeEvent
  split <;> exact h.frame ..

/-- Settles O55: taking the event off the schedule keeps the invariant, and so does each agent's step. -/
theorem everyStepKeepsTheInvariant : Obligations.EveryStepKeepsTheInvariant := by
  intro s t h hst
  obtain ⟨_, hp⟩ := perform_of_step hst
  exact h.takeEvent.perform hp

end Sys2Proof.Machine

/-! ## What a host access does to the register interface (20_memory.md R60 to R66)

Every access is traced to what its offset names: a register, a word of a window or nothing. -/

namespace Sys2Proof.Machine

/-! ### The form of an access (20_memory.md R61) -/

theorem accessOk_iff (n : Nat) (a : Offset) : accessOk n a = true ↔ n = 4 ∧ a.toNat % 4 = 0 := by
  simp [accessOk]

theorem hostRead_of_aligned {a : Offset} (ha : a.toNat % 4 = 0) (s : State) :
    hostRead 4 a s = .next { s with rdata := readOffset s a } :=
  if_pos ((accessOk_iff 4 a).mpr ⟨rfl, ha⟩)

theorem hostWrite_of_aligned {a : Offset} (ha : a.toNat % 4 = 0) (v : Word) (s : State) :
    hostWrite 4 a v s = writeOffset a v s :=
  if_pos ((accessOk_iff 4 a).mpr ⟨rfl, ha⟩)

/-! ### Every write of a legal form has its step (60_exceptions.md R307) -/

theorem exec_has_next (i : Instr) (s : State) : ∃ t, exec i s = .next t := by
  cases i with
  | nop | rxRearm | chkCompute => exact ⟨_, rfl⟩
  | txSend => rcases execTxSend_cases s with ⟨_, h⟩ | ⟨_, _, h⟩ | ⟨_, _, h⟩ <;> exact ⟨_, h⟩
  | chkVerify => rcases execChkVerify_cases s with ⟨_, h⟩ | ⟨_, h⟩ <;> exact ⟨_, h⟩
  | sendCommand => rcases execSendCommand_cases s with ⟨_, h⟩ | ⟨_, _, h⟩ | ⟨_, _, h⟩ <;> exact ⟨_, h⟩
  | probe => rcases execProbe_cases s with ⟨_, h⟩ | ⟨_, _, h⟩ | ⟨_, _, h⟩ <;> exact ⟨_, h⟩
  | detectSpeed => rcases execDetectSpeed_cases s with ⟨_, h⟩ | ⟨_, h⟩ <;> exact ⟨_, h⟩
  | forceDefault => rcases execForceDefault_cases s with ⟨_, h⟩ | ⟨_, h⟩ <;> exact ⟨_, h⟩
  | setSpeedSafely u => rcases execSetSpeedSafely_cases u s with ⟨_, h⟩ | ⟨_, _, h⟩ | ⟨_, _, h⟩ <;> exact ⟨_, h⟩

theorem issueCommand_has_next (w : Word) (s : State) : ∃ t, issueCommand w s = .next t := by
  unfold issueCommand
  split
  · exact ⟨_, rfl⟩
  · exact ⟨_, rfl⟩
  · exact exec_has_next _ s

theorem writeReg_has_next (r : Reg) (v : Word) (s : State) : ∃ t, writeReg r v s = .next t := by
  cases r
  case cmd => exact issueCommand_has_next v s
  all_goals exact ⟨_, rfl⟩

theorem writeOffset_has_next (a : Offset) (v : Word) (s : State) : ∃ t, writeOffset a v s = .next t := by
  unfold writeOffset
  split
  · exact writeReg_has_next _ v s
  · exact ⟨_, rfl⟩
  · exact ⟨_, rfl⟩

/-- Settles O45: the form of the access alone decides, and a write of the legal form has a step whatever it names. -/
theorem onlyAlignedWordAccesses : Obligations.OnlyAlignedWordAccesses := by
  refine fun s n a v => ⟨?_, fun hform => ?_⟩
  · rintro ⟨rfl, ha⟩
    rw [hostWrite_of_aligned ha]
    exact ⟨hostRead_of_aligned ha s, writeOffset_has_next a v s⟩
  · have hno : ¬ accessOk n a = true := mt (accessOk_iff n a).mp hform
    exact ⟨if_neg hno, if_neg hno⟩

/-! ### The windows' words in their buffers (20_memory.md R62, R63) -/

/-- A byte after a word write: of word `j`, below the capacity, its lane; of any other place what it was. -/
theorem putWord_getD {cap : Nat} {buf : List Byte} (h : buf.length = cap) (j n : Nat) (v : Word) :
    (putWord cap buf j v).getD n 0 =
      if n / 4 = j ∧ n < cap then v.extractLsb' (8 * (n % 4)) 8 else buf.getD n 0 := by
  simp only [putWord, putByte_getD, putByte_length, h, laneOf]
  by_cases hj : n / 4 = j
  · obtain ⟨k, hk, rfl⟩ : ∃ k < 4, n = 4 * j + k := ⟨n % 4, by omega, by omega⟩
    have hmod : (4 * j + k) % 4 = k := by omega
    rw [hmod]
    match k, hk with
    | 0, _ | 1, _ | 2, _ | 3, _ => simp [hj]
  · simp (disch := omega) only [if_neg]

/-- A word past the capacity stores nothing. -/
theorem putWord_of_le {cap j : Nat} (h : cap ≤ 4 * j) (buf : List Byte) (v : Word) : putWord cap buf j v = buf := by
  simp (disch := omega) only [putWord, putByte, if_neg]

/-- A word past the mask's limit reads 0. -/
theorem windowWord_of_le {limit j : Nat} (h : limit ≤ 4 * j) (buf : List Byte) : windowWord buf limit j = 0 := by
  simp (disch := omega) only [windowWord, maskedByte, if_neg]
  rfl

/-- The lane of a stored word reads back where the capacity holds it, and as 0 past it. -/
theorem maskedByte_putWord {cap : Nat} {buf : List Byte} (h : buf.length = cap) (j : Nat) {k : Nat} (hk : k < 4)
    (v : Word) :
    maskedByte (putWord cap buf j v) cap (4 * j + k) = if 4 * j + k < cap then v.extractLsb' (8 * k) 8 else 0 := by
  rw [maskedByte, putWord_getD h, show (4 * j + k) / 4 = j by omega, show (4 * j + k) % 4 = k by omega]
  by_cases hc : 4 * j + k < cap <;> simp [hc]

/-- A write of a window's word at its offset. -/
theorem hostWrite_of_target {base j : Nat} {w : Window} (h : base + 4 * j < 2 ^ 16) (hbase : base % 4 = 0)
    (ht : targetAt (base + 4 * j) = .window w j) (v : Word) (s : State) :
    hostWrite 4 (BitVec.ofNat 16 (base + 4 * j)) v s = .next (writeWindow w j v s) := by
  rw [hostWrite_of_aligned (by rw [offset_toNat h]; omega), writeOffset, offset_toNat h, ht]

theorem byteAt_writeWindow_txData {s : State} (h : s.txBuf.length = s.cfg.nCap) (j : Nat) (v : Word) (b : Buffer)
    (n : Nat) :
    (writeWindow .txData j v s).byteAt b n =
      if b = .tx ∧ n / 4 = j ∧ n < s.cfg.nCap then v.extractLsb' (8 * (n % 4)) 8 else s.byteAt b n := by
  cases b with
  | tx => simpa [State.byteAt, State.buffer, writeWindow] using putWord_getD h j n v
  | rx | rxChk | cmd | resp => simp [State.byteAt, State.buffer, writeWindow]

theorem byteAt_writeWindow_cmdText {s : State} (h : s.cmdBuf.length = s.cfg.cmdCap) (j : Nat) (v : Word) (b : Buffer)
    (n : Nat) :
    (writeWindow .cmdText j v s).byteAt b n =
      if b = .cmd ∧ n / 4 = j ∧ n < s.cfg.cmdCap then v.extractLsb' (8 * (n % 4)) 8 else s.byteAt b n := by
  cases b with
  | cmd => simpa [State.byteAt, State.buffer, writeWindow] using putWord_getD h j n v
  | tx | rx | rxChk | resp => simp [State.byteAt, State.buffer, writeWindow]

/-- Settles O41: each of the two windows stores its word in its own buffer, and reads it back under its own capacity. -/
theorem windowWriteStoresItsLanes : Obligations.WindowWriteStoresItsLanes := by
  intro s j v hj hwf
  obtain ⟨htx, _, _, hcmd, _⟩ := (memory_wf_iff s).mp hwf
  obtain ⟨ttx, _, tcmd, _⟩ := targetAt_byteWindows hj
  refine ⟨⟨writeWindow .txData j v s, hostWrite_of_target (by omega) rfl ttx v s, rfl,
      byteAt_writeWindow_txData htx j v, fun k hk => ?_⟩,
    ⟨writeWindow .cmdText j v s, hostWrite_of_target (by omega) rfl tcmd v s, rfl,
      byteAt_writeWindow_cmdText hcmd j v, fun k hk => ?_⟩⟩
  · rw [readOffset_of_target (by omega) ttx, readWindow, windowWord_lane _ _ _ hk]
    exact maskedByte_putWord htx j hk v
  · rw [readOffset_of_target (by omega) tcmd, readWindow, windowWord_lane _ _ _ hk]
    exact maskedByte_putWord hcmd j hk v

/-! ### Accesses with no effect (20_memory.md R65) -/

/-- The first offset of a window (20_memory.md R60). -/
def Window.base : Window → Nat
  | .speedTable => 0x0800
  | .txData     => 0x1000
  | .rxData     => 0x2000
  | .cmdText    => 0x3000
  | .respData   => 0x4000

/-- How many words the range of a window has (R60). -/
def Window.words : Window → Nat
  | .speedTable => 256
  | .txData | .rxData | .cmdText | .respData => 1024

/-- How many bytes of a window are in use; the words past them are the unused ones (R65; 10_state.md R41 to R45). -/
def Window.used (c : Config) : Window → Nat
  | .speedTable => 4 * c.k
  | .txData     => c.nCap
  | .rxData     => c.nCap
  | .cmdText    => c.cmdCap
  | .respData   => c.respCap

/-- The offset lies in the range of the window. -/
def Window.InRange (w : Window) (a : Nat) : Prop := w.base ≤ a ∧ a < w.base + 4 * w.words

theorem targetAt_word {w : Window} {j : Nat} (hj : j < w.words) : targetAt (w.base + 4 * j) = .window w j := by
  cases w with
  | speedTable => exact targetAt_speedTable hj
  | txData => exact (targetAt_byteWindows hj).1
  | rxData => exact (targetAt_byteWindows hj).2.1
  | cmdText => exact (targetAt_byteWindows hj).2.2.1
  | respData => exact (targetAt_byteWindows hj).2.2.2

theorem inRange_of_targetAt {a j : Nat} {w : Window} (h : targetAt a = .window w j) : w.InRange a := by
  unfold targetAt at h
  split_ifs at h
  · split at h <;> cases h
  all_goals
    cases h
    simp only [Window.InRange, Window.base, Window.words]
    omega

theorem targetAt_reserved {a : Nat} (h : (0x0060 ≤ a ∧ a < 0x0800) ∨ (0x0C00 ≤ a ∧ a < 0x1000) ∨ 0x5000 ≤ a) :
    targetAt a = .reserved := by
  unfold targetAt
  rcases h with h | h | h <;> simp (disch := omega) only [if_neg, if_pos]

theorem regAt_of_targetAt {a : Nat} {r : Reg} (h : targetAt a = .reg r) : regAt a = some r := by
  unfold targetAt at h
  split_ifs at h
  split at h <;> simp_all

/-- The registers a write can change, and their offsets (10_state.md R20). -/
theorem offset_of_writable {a : Nat} {r : Reg} (h : regAt a = some r)
    (hr : r ∈ [Reg.ctrl, .cmd, .txLen, .txNum, .cmdLen]) : a ∈ [0x000, 0x00C, 0x010, 0x014, 0x030] := by
  unfold regAt at h
  split at h <;> cases h <;> simp_all

theorem writeReg_readOnly {r : Reg} (hr : r ∉ [Reg.ctrl, .cmd, .txLen, .txNum, .cmdLen]) (v : Word) (s : State) :
    writeReg r v s = .next s := by
  cases r
  case ctrl | cmd | txLen | txNum | cmdLen => simp at hr
  all_goals rfl

theorem writeWindow_readOnly {w : Window} (htx : w ≠ .txData) (hcmd : w ≠ .cmdText) (j : Nat) (v : Word) (s : State) :
    writeWindow w j v s = s := by
  cases w with
  | txData => exact absurd rfl htx
  | cmdText => exact absurd rfl hcmd
  | speedTable | rxData | respData => rfl

/-- A write to anything but a writable register and the two RW windows is ignored. -/
theorem writeOffset_readOnly {a : Offset} (hreg : a.toNat ∉ [0x000, 0x00C, 0x010, 0x014, 0x030])
    (htx : ¬ Window.txData.InRange a.toNat) (hcmd : ¬ Window.cmdText.InRange a.toNat) (v : Word) (s : State) :
    writeOffset a v s = .next s := by
  unfold writeOffset
  split
  next r ht => exact writeReg_readOnly (mt (offset_of_writable (regAt_of_targetAt ht)) hreg) v s
  next w j ht =>
    have hw := inRange_of_targetAt ht
    rw [writeWindow_readOnly (fun he => htx (he ▸ hw)) (fun he => hcmd (he ▸ hw))]
  next => rfl

theorem writeWindow_unused {w : Window} {s : State} {j : Nat} (h : w.used s.cfg ≤ 4 * j) (v : Word) :
    writeWindow w j v s = s := by
  cases w with
  | txData => rw [writeWindow, putWord_of_le (cap := s.cfg.nCap) h]
  | cmdText => rw [writeWindow, putWord_of_le (cap := s.cfg.cmdCap) h]
  | speedTable | rxData | respData => rfl

theorem readWindow_unused {w : Window} {s : State} {j : Nat} (h : w.used s.cfg ≤ 4 * j) : readWindow s w j = 0 := by
  cases w with
  | speedTable => exact if_neg (by simpa [Window.used] using h)
  | txData | cmdText => exact windowWord_of_le h _
  | rxData | respData => exact windowWord_of_le ((Nat.min_le_right ..).trans h) _

/-- An unused word of a window reads 0, and a write of it is ignored. -/
theorem access_unused {w : Window} {s : State} {a : Offset} (ha : a.toNat % 4 = 0) (hr : w.InRange a.toNat)
    (hu : w.used s.cfg ≤ a.toNat - w.base) (v : Word) : writeOffset a v s = .next s ∧ readOffset s a = 0 := by
  obtain ⟨hlo, hhi⟩ := hr
  have hbase : w.base % 4 = 0 := by cases w <;> rfl
  obtain ⟨j, hj, he⟩ : ∃ j < w.words, a.toNat = w.base + 4 * j := ⟨(a.toNat - w.base) / 4, by omega, by omega⟩
  have hj' : w.used s.cfg ≤ 4 * j := by omega
  rw [writeOffset, readOffset, he, targetAt_word hj]
  exact ⟨congrArg _ (writeWindow_unused hj' v), readWindow_unused hj'⟩

theorem readOffset_reserved {a : Offset} (h : targetAt a.toNat = .reserved) (s : State) : readOffset s a = 0 := by
  rw [readOffset, h]

/-- Settles O44: an unused word by its window, the rest by what their offset names. -/
theorem ignoredAccessesChangeNothing : Obligations.IgnoredAccessesChangeNothing := by
  intro s a v ha
  rw [hostWrite_of_aligned ha]
  have unused (w : Window) (hr : w.InRange a.toNat) (hu : w.used s.cfg ≤ a.toNat - w.base) := access_unused ha hr hu v
  exact ⟨hostRead_of_aligned ha s, fun hreg htx hcmd => writeOffset_readOnly hreg htx hcmd v s,
    unused .txData, unused .cmdText, fun hr hu => (unused .rxData hr hu).2, fun hr hu => (unused .respData hr hu).2,
    fun hr hu => (unused .speedTable hr hu).2, fun hr => readOffset_reserved (targetAt_reserved hr) s, rfl⟩

end Sys2Proof.Machine

/-! ## What only the sequencer and a command write (20_memory.md R70, R72, R76) -/

namespace Sys2Proof.Machine

/-- A step from `s` to `t` leaves the sequencer, its status bits, its results and the ports as they are. -/
structure LeavesSequencer (s t : State) : Prop where
  cfg       : t.cfg = s.cfg
  seq       : t.seq = s.seq
  busy      : t.busy = s.busy
  cmdActive : t.cmdActive = s.cmdActive
  link      : t.link = s.link
  probe     : t.probe = s.probe
  setSpeed  : t.setSpeed = s.setSpeed
  trace     : t.trace = s.trace

theorem DataWrite.leavesSequencer {s t : State} (h : DataWrite s t) : LeavesSequencer s t := by
  cases h
  constructor <;> rfl

theorem hostWrite_leavesSequencer {n : Nat} {a : Offset} {v : Word} {s t : State} (ha : ¬ (n = 4 ∧ a = 0x00C))
    (h : hostWrite n a v s = .next t) : LeavesSequencer s t := by
  rcases hostWrite_next h with ⟨hn, hc, _⟩ | hd
  · exact absurd ⟨hn, hc⟩ ha
  · exact hd.leavesSequencer

theorem decoderStep_leavesSequencer (s : State) : LeavesSequencer s (decoderStep s) := by
  unfold decoderStep
  split
  · constructor <;> rfl
  · split <;> constructor <;> rfl

theorem takeEvent_leavesSequencer (s : State) : LeavesSequencer s (takeEvent s) := by
  unfold takeEvent
  split <;> constructor <;> rfl

/-- The offered byte is decided by the sequencer and the configuration. -/
theorem LeavesSequencer.offeredByte {s t : State} (h : LeavesSequencer s t) : offeredByte t = offeredByte s := by
  unfold Machine.offeredByte runningText
  rw [h.seq, h.cfg]

/-- Settles O23: such a write goes to what the host owns. -/
theorem hostWritesChangeNoRunningCommand : Obligations.HostWritesChangeNoRunningCommand := by
  intro s t n a v ha hw
  have h := hostWrite_leavesSequencer (fun ⟨_, hc⟩ => ha hc) hw
  exact ⟨h.seq, h.offeredByte, h.link, h.busy, h.cmdActive⟩

/-- With no command running, only a command write and a reset touch what the sequencer writes. -/
theorem perform_leavesSequencer {e : Event} {s t : State} (hop : s.seq.op = none) (hc : ¬ IsCmdWrite e)
    (hr : e ≠ .reset) (h : perform e s = .next t) : LeavesSequencer s t := by
  obtain ⟨hstep, haccept⟩ := sequencer_idle hop
  cases e with
  | hostRead n a => rw [hostRead_next h]; constructor <;> rfl
  | hostWrite n a v => exact hostWrite_leavesSequencer (fun ⟨hn, ha⟩ => hc ⟨v, by rw [hn, ha]⟩) h
  | decoderStep => cases h; exact decoderStep_leavesSequencer s
  | sequencerStep => cases h; rw [hstep]; constructor <;> rfl
  | transportAccept => cases h; rw [haccept]; constructor <;> rfl
  | transportDeliver | transportRequeue | clockAdvance => cases h; constructor <;> rfl
  | reset => exact absurd rfl hr

/-- Settles O49: by the invariant BUSY 0 means that no command runs, and taking the event keeps that. -/
theorem resultsAreFinalWhenIdle : Obligations.ResultsAreFinalWhenIdle := by
  intro s t hinv hb hst hc hr
  obtain ⟨_, hp⟩ := perform_of_step hst
  have ht := takeEvent_leavesSequencer s
  have hop : s.seq.op = none := by simpa using hinv.busy.symm.trans hb
  have h := perform_leavesSequencer (by rw [ht.seq, hop]) hc hr hp
  exact ⟨h.link.trans ht.link, h.probe.trans ht.probe, h.setSpeed.trans ht.setSpeed, h.trace.trans ht.trace,
    h.busy.trans (ht.busy.trans hb)⟩

end Sys2Proof.Machine

/-! ## Decoding the command word (30_encoding.md R90 to R95)

`eq_encode_of_decode` is one direction of the decoder's correctness; here stand the other, and the two rejections. -/

namespace Sys2Proof

theorem argOf_encode (i : Instr) : argOf (encode i) = i.arg := by
  rw [argOf, encode, BitVec.extractLsb'_append_eq_of_le (by decide), Nat.sub_self,
    BitVec.extractLsb'_append_eq_of_add_le (by decide)]
  exact BitVec.extractLsb'_eq_self

theorem rsvOf_encode (i : Instr) : rsvOf (encode i) = 0 := by
  rw [rsvOf, encode, BitVec.extractLsb'_append_eq_of_le (by decide), BitVec.extractLsb'_append_eq_of_le (by decide)]
  exact BitVec.extractLsb'_eq_self

theorem reservedSet_iff (w : Word) : reservedSet w = true ↔ rsvOf w ≠ 0 ∨ (opcOf w ≠ 0x14 ∧ argOf w ≠ 0) := by
  simp [reservedSet]

/-- The opcode map reads a command's own OPC and ARG as that command (R91). -/
theorem instrOf_opcode_arg (i : Instr) : instrOf i.opcode i.arg = some i := by
  cases i <;> rfl

/-- Only SET_SPEED_SAFELY has an operand (R92). -/
theorem arg_eq_zero_of_opcode {i : Instr} (h : i.opcode ≠ 0x14) : i.arg = 0 := by
  cases i with
  | setSpeedSafely t => exact absurd rfl h
  | _ => rfl

theorem reservedSet_encode (i : Instr) : reservedSet (encode i) = false := by
  rw [Bool.eq_false_iff, ne_eq, reservedSet_iff, rsvOf_encode, opcOf_encode, argOf_encode]
  rintro (h | ⟨ho, ha⟩)
  · exact h rfl
  · exact ha (arg_eq_zero_of_opcode ho)

theorem decode_encode (i : Instr) : decode (encode i) = .run i := by
  rw [decode, opcOf_encode, argOf_encode, instrOf_opcode_arg, reservedSet_encode]
  rfl

/-- Settles O1: no word but its encoding runs a command, and the encoding does. -/
theorem decodeEncodeAgree : Obligations.DecodeEncodeAgree := by
  intro w i
  constructor
  · exact eq_encode_of_decode
  · rintro rfl
    exact decode_encode i

/-- The opcodes of the ten commands (R91). -/
def legalOpcodes : List Byte := [0x00, 0x01, 0x02, 0x03, 0x04, 0x10, 0x11, 0x12, 0x13, 0x14]

theorem opcode_mem_legalOpcodes (i : Instr) : i.opcode ∈ legalOpcodes := by
  cases i <;> simp [Instr.opcode, legalOpcodes]

/-- The opcode map has an entry at exactly the legal opcodes, whatever ARG is. -/
theorem instrOf_eq_none_iff (o a : Byte) : instrOf o a = none ↔ o ∉ legalOpcodes := by
  have hsome : ∀ o ∈ legalOpcodes, instrOf o a ≠ none := by simp [legalOpcodes, instrOf]
  constructor
  · exact fun h hm => hsome o hm h
  · intro hm
    cases h : instrOf o a with
    | none => rfl
    | some i =>
      obtain ⟨ho, _⟩ := opcode_of_instrOf h
      exact absurd (ho ▸ opcode_mem_legalOpcodes i) hm

theorem decode_eq_illegalOpcode_iff (w : Word) : decode w = .illegalOpcode ↔ opcOf w ∉ legalOpcodes := by
  rw [← instrOf_eq_none_iff (opcOf w) (argOf w), decode]
  cases instrOf (opcOf w) (argOf w) with
  | none => simp
  | some i => cases reservedSet w <;> simp

theorem decode_eq_reservedBits_iff (w : Word) :
    decode w = .reservedBits ↔ opcOf w ∈ legalOpcodes ∧ reservedSet w = true := by
  rw [← not_not (a := opcOf w ∈ legalOpcodes), ← instrOf_eq_none_iff (opcOf w) (argOf w), decode]
  cases instrOf (opcOf w) (argOf w) with
  | none => simp
  | some i => cases reservedSet w <;> simp

/-- Settles O2: the opcode map decides the first rejection, the reserved bits the second. -/
theorem illegalWordsRejected : Obligations.IllegalWordsRejected := by
  intro w
  rw [← reservedSet_iff]
  exact ⟨decode_eq_illegalOpcode_iff w, decode_eq_reservedBits_iff w⟩

/-- Settles O3: each word is a closed one, so the decoder is run on it. -/
theorem sampleWordsDecode : Obligations.SampleWordsDecode := by
  unfold Obligations.SampleWordsDecode
  decide

end Sys2Proof

/-! ## The step of a command word (30_encoding.md R95; 20_memory.md R70) -/

namespace Sys2Proof.Machine

/-- Settles O4: the word has its step, and every step of a word leaves its OPC. -/
theorem everyCommandWordHasItsStep : Obligations.EveryCommandWordHasItsStep := by
  intro w s
  obtain ⟨t, h⟩ := issueCommand_has_next w s
  exact ⟨t, h, issueCommand_lastOpc h⟩

theorem issueCommand_of_run {w : Word} {i : Instr} (h : decode w = .run i) (s : State) :
    issueCommand w s = exec i s := by
  rw [issueCommand, h]

/-- A step takes the first event of the schedule and performs it. -/
theorem step_of_pending {s : State} {e : Event} {rest : List Event} (hwf : s.cfg.wf = true)
    (h : s.pending = e :: rest) : step s = perform e { s with pending := rest } := by
  rw [step, if_pos hwf, nextEvent, takeEvent, h]

/-- Settles O54: the step performs the event the schedule names, and a CMD write is the issue of its word. -/
theorem stepRunsTheDecodedCommand : Obligations.StepRunsTheDecodedCommand := by
  intro s e rest hwf hp
  rw [step_of_pending hwf hp]
  refine ⟨fun w i he hi => ?_, fun n a v he => ?_, fun n a he => ?_, fun he => ?_, fun he => ?_, fun he => ?_,
    fun b he => ?_, fun ms he => ?_, fun he => ?_⟩ <;> subst he
  · exact issueCommand_of_run hi _
  all_goals rfl

end Sys2Proof.Machine

/-! ## The five digits of a checksum (30_encoding.md R102; 42_checksum.md R192, R193) -/

namespace Sys2Proof.Machine

theorem isDigit_iff (b : Byte) : isDigit b = true ↔ 0x30 ≤ b.toNat ∧ b.toNat ≤ 0x39 := by
  simp [isDigit]

theorem isDigit_digitByte {d : Nat} (h : d < 10) : isDigit (digitByte d) = true := by
  rw [isDigit_iff, digitByte_toNat h]
  omega

theorem dec5_length (v : Half) : (dec5 v).length = 5 := by
  simp [dec5]

/-- Digit `k` of Dec5, as R102 writes it. -/
theorem dec5_getD (v : Half) {k : Nat} (hk : k < 5) :
    (dec5 v).getD k 0 = digitByte (v.toNat / 10 ^ (4 - k) % 10) := by
  simp [dec5, hk]

theorem dec5_digits (v : Half) : ∀ b ∈ dec5 v, isDigit b = true := by
  intro b hb
  obtain ⟨k, _, rfl⟩ := List.mem_map.mp hb
  exact isDigit_digitByte (Nat.mod_lt _ (by decide))

/-- A field that begins with a digit has no leading spaces. -/
theorem leadingSpaces_cons_digit {b : Byte} (h : isDigit b = true) (bs : List Byte) : leadingSpaces (b :: bs) = 0 := by
  have hb : b ≠ spaceByte := by
    rintro rfl
    exact absurd h (by decide)
  simp [leadingSpaces, hb]

theorem leadingSpaces_of_digits {c : List Byte} (hl : c.length = 5) (hd : ∀ b ∈ c, isDigit b = true) :
    leadingSpaces c = 0 := by
  cases c with
  | nil => cases hl
  | cons b bs => exact leadingSpaces_cons_digit (hd b List.mem_cons_self) bs

/-- A field of five digits is read as its value, if that fits a u16 (R193). -/
theorem parseChk_of_digits {c : List Byte} (hl : c.length = 5) (hd : ∀ b ∈ c, isDigit b = true)
    (hv : fieldValue c 0 ≤ 65535) : parseChk c 5 = some (BitVec.ofNat 16 (fieldValue c 0)) := by
  have hany : (List.range' 0 (5 - 0)).any (fun k => !isDigit (c.getD k 0)) = false := by
    rw [List.any_eq_false]
    intro k hk
    have hlt : k < c.length := by
      rw [List.mem_range'_1] at hk
      omega
    have hdk : isDigit (c.getD k 0) = true := by
      rw [List.getD_eq_getElem c 0 hlt]
      exact hd _ (List.getElem_mem hlt)
    rw [hdk]
    decide
  simp only [parseChk, leadingSpaces_of_digits hl hd, hany]
  rw [if_neg (by decide), if_neg (by decide), if_neg (by decide), if_neg (by omega)]

/-- The five digits of Dec5 are those of the value, since a u16 has no more than five. -/
theorem fieldValue_dec5 (v : Half) : fieldValue (dec5 v) 0 = v.toNat := by
  have hdigit {k : Nat} (hk : k < 5) :
      ((dec5 v).getD k 0).toNat - 0x30 = v.toNat / 10 ^ (4 - k) % 10 := by
    rw [dec5_getD v hk, digitByte_toNat (Nat.mod_lt _ (by decide)), Nat.add_sub_cancel_left]
  have hrange : List.range' 0 (5 - 0) = [0, 1, 2, 3, 4] := rfl
  have hv := v.isLt
  simp only [fieldValue, hrange, List.map_cons, List.map_nil, List.sum_cons, List.sum_nil]
  simp (disch := decide) only [hdigit]
  omega

theorem parseChk_dec5 (v : Half) : parseChk (dec5 v) 5 = some v := by
  have hv := v.isLt
  rw [parseChk_of_digits (dec5_length v) (dec5_digits v) (by rw [fieldValue_dec5]; omega), fieldValue_dec5,
    BitVec.ofNat_toNat, BitVec.setWidth_eq]

/-- Settles O36: Dec5 is injective because ParseChk undoes it. -/
theorem dec5ReadsBack : Obligations.Dec5ReadsBack := by
  refine ⟨fun v => ⟨dec5_length v, fun b hb => (isDigit_iff b).mp (dec5_digits v b hb), parseChk_dec5 v⟩, ?_⟩
  intro v w h
  apply Option.some.inj
  calc some v = parseChk (dec5 v) 5 := (parseChk_dec5 v).symm
    _ = parseChk (dec5 w) 5 := by rw [h]
    _ = some w := parseChk_dec5 w

end Sys2Proof.Machine

/-! ## The round trip of an encoded frame (40_encode.md R125; 41_decode.md R154 to R173)

Each byte of the frame meets one cell of the transition table. Both of the frame's fields, the payload and the digits of its
checksum, fill a buffer from its first place on, so one induction, `foldl_fills`, serves both. -/

namespace Sys2Proof.Machine

/-! ### The classes of the frame's bytes (30_encoding.md R103; 00_scope.md R6) -/

theorem classify_startMark (c : Config) (chk : Bool) : classify c chk c.startMark = .start := if_pos rfl

theorem classify_other {c : Config} {chk : Bool} {b : Byte} (hs : b ≠ c.startMark) (he : b ≠ c.endMark)
    (hd : chk = true → b ≠ c.delim) : classify c chk b = .other := by
  rw [classify, if_neg hs, if_neg he, if_neg fun h => hd h.1 h.2]

theorem Unreserved.classify_other {c : Config} {chk : Bool} {p : List Byte} (h : Unreserved c chk p) :
    ∀ b ∈ p, classify c chk b = .other := by
  obtain ⟨hs, he, hd⟩ := h
  intro b hb
  exact Machine.classify_other (ne_of_mem_of_not_mem hb hs) (ne_of_mem_of_not_mem hb he)
    fun hc => ne_of_mem_of_not_mem hb (hd hc)

/-- A well-formed configuration has distinct markers, none of them a digit (R6). -/
theorem markers_of_config_wf {c : Config} (h : c.wf = true) :
    (c.startMark ≠ c.endMark ∧ c.startMark ≠ c.delim ∧ c.endMark ≠ c.delim) ∧
    isDigit c.startMark = false ∧ isDigit c.endMark = false ∧ isDigit c.delim = false := by
  have digit {b : Byte} (hb : Config.encoderByte b = false) : isDigit b = false := by
    simp only [Config.encoderByte, Bool.or_eq_false_iff] at hb
    exact hb.1.1
  simp only [Config.wf, Config.markersDistinct, Config.markersFree, Bool.and_eq_true, bne_iff_ne, Bool.not_eq_true'] at h
  obtain ⟨⟨⟨⟨⟨⟨⟨hse, hsd⟩, hed⟩, ⟨hs, he⟩, hd⟩, _⟩, _⟩, _⟩, _⟩ := h
  exact ⟨⟨hse, hsd, hed⟩, digit hs, digit he, digit hd⟩

theorem classify_endMark {c : Config} (h : c.wf = true) (chk : Bool) : classify c chk c.endMark = .stop := by
  obtain ⟨⟨hse, _⟩, _⟩ := markers_of_config_wf h
  rw [classify, if_neg hse.symm, if_pos rfl]

theorem classify_delim {c : Config} (h : c.wf = true) : classify c true c.delim = .delim := by
  obtain ⟨⟨_, hsd, hed⟩, _⟩ := markers_of_config_wf h
  rw [classify, if_neg hsd.symm, if_neg hed.symm, if_pos ⟨rfl, rfl⟩]

theorem classify_digit {c : Config} (h : c.wf = true) (chk : Bool) {b : Byte} (hb : isDigit b = true) :
    classify c chk b = .other := by
  have distinct {m : Byte} (hm : isDigit m = false) : b ≠ m := by
    rintro rfl
    exact Bool.noConfusion (hb.symm.trans hm)
  obtain ⟨_, hs, he, hd⟩ := markers_of_config_wf h
  exact classify_other (distinct hs) (distinct he) fun _ => distinct hd

/-! ### The cells of the table that the frame meets -/

theorem decodeByte_start {c : Config} {chk : Bool} {b : Byte} {r : Rx} (hb : classify c chk b = .start)
    (hp : r.phase ≠ .frameComplete) : decodeByte c chk b r = startFrame r := by
  cases hr : r.phase with
  | frameComplete => exact absurd hr hp
  | idle | readingPayload | readingChecksum => simp only [decodeByte, hr, hb]

theorem decodeByte_delim {c : Config} {chk : Bool} {b : Byte} {r : Rx} (hb : classify c chk b = .delim)
    (hp : r.phase = .readingPayload) : decodeByte c chk b r = { r with phase := .readingChecksum, chkLen := 0 } := by
  simp only [decodeByte, hp, hb]

theorem decodeByte_stop {c : Config} {chk : Bool} {b : Byte} {r : Rx} (hb : classify c chk b = .stop)
    (hp : r.phase = .readingPayload ∨ r.phase = .readingChecksum) :
    decodeByte c chk b r = { r with phase := .frameComplete } := by
  rcases hp with hp | hp <;> simp only [decodeByte, hp, hb]

theorem decodeByte_payload {c : Config} {chk : Bool} {b : Byte} {r : Rx} (hb : classify c chk b = .other)
    (hp : r.phase = .readingPayload) (hl : r.len < c.nCap) :
    decodeByte c chk b r = { r with buf := r.buf.set r.len b, len := r.len + 1 } := by
  simp only [decodeByte, hp, hb, takePayloadByte, if_pos hl]

theorem decodeByte_digit {c : Config} {chk : Bool} {b : Byte} {r : Rx} (hb : classify c chk b = .other)
    (hp : r.phase = .readingChecksum) (hl : r.chkLen < 5) :
    decodeByte c chk b r = { r with chk := r.chk.set r.chkLen b, chkLen := r.chkLen + 1 } := by
  simp only [decodeByte, hp, hb, takeChecksumByte, Config.chkDigits, if_pos hl]

/-! ### A field fills its buffer -/

/-- Where a step stores its byte in place of the first `old` byte, taking as many bytes as are left fills the buffer.
`held new old` is the state whose buffer holds the bytes `new` taken so far in front of the bytes `old` it held before. -/
theorem foldl_fills {σ : Type} {f : σ → Byte → σ} {held : List Byte → List Byte → σ} {n : Nat} {bs : List Byte}
    (store : ∀ new, ∀ b ∈ bs, ∀ o old, (new ++ b :: old).length = n →
      f (held new (o :: old)) b = held (new ++ [b]) old) :
    ∀ new old, old.length = bs.length → (new ++ bs).length = n → bs.foldl f (held new old) = held (new ++ bs) [] := by
  induction bs with
  | nil =>
    intro new old ho _
    rw [List.eq_nil_of_length_eq_zero ho, List.append_nil, List.foldl_nil]
  | cons b bs ih =>
    intro new old ho hn
    cases old with
    | nil => cases ho
    | cons o old =>
      have hold : old.length = bs.length := Nat.succ.inj ho
      have hstep : f (held new (o :: old)) b = held (new ++ [b]) old :=
        store new b List.mem_cons_self o old (by simpa [hold] using hn)
      have hrest := ih (fun new b hb => store new b (List.mem_cons_of_mem _ hb)) (new ++ [b]) old hold
        (by simpa using hn)
      rw [List.foldl_cons, hstep, hrest, List.append_assoc, List.singleton_append]

/-- The decoder in ReadingPayload, with `new` taken and `old` behind it in RXBUF. -/
def holdingPayload (r : Rx) (new old : List Byte) : Rx :=
  { r with phase := .readingPayload, buf := new ++ old, len := new.length }

/-- The decoder in ReadingChecksum, with `new` taken and `old` behind it in RXCHK. -/
def holdingChecksum (r : Rx) (new old : List Byte) : Rx :=
  { r with phase := .readingChecksum, chk := new ++ old, chkLen := new.length }

/-- The bytes of a payload of N_CAP bytes fill RXBUF (R161). -/
theorem foldl_payload {c : Config} {chk : Bool} {p : List Byte} (hp : ∀ b ∈ p, classify c chk b = .other)
    (hl : p.length = c.nCap) {r : Rx} (hr : r.phase = .readingPayload) (hn : r.len = 0) (hb : r.buf.length = c.nCap) :
    p.foldl (fun x b => decodeByte c chk b x) r = { r with buf := p, len := c.nCap } := by
  have store : ∀ new, ∀ b ∈ p, ∀ o old, (new ++ b :: old).length = c.nCap →
      decodeByte c chk b (holdingPayload r new (o :: old)) = holdingPayload r (new ++ [b]) old := by
    intro new b hb o old hlen
    have hlt : new.length < c.nCap := by
      rw [List.length_append, List.length_cons] at hlen
      omega
    rw [decodeByte_payload (hp b hb) rfl hlt]
    simp [holdingPayload]
  calc p.foldl (fun x b => decodeByte c chk b x) r
      = p.foldl (fun x b => decodeByte c chk b x) (holdingPayload r [] r.buf) := by simp [holdingPayload, ← hr, ← hn]
    _ = holdingPayload r p [] := foldl_fills store [] r.buf (hb.trans hl.symm) hl
    _ = { r with buf := p, len := c.nCap } := by simp [holdingPayload, hr, hl]

/-- Five bytes with no reserved one fill RXCHK (R167). -/
theorem foldl_checksum {c : Config} {chk : Bool} {ds : List Byte} (hd : ∀ b ∈ ds, classify c chk b = .other)
    (hl : ds.length = 5) {r : Rx} (hr : r.phase = .readingChecksum) (hn : r.chkLen = 0) (hb : r.chk.length = 5) :
    ds.foldl (fun x b => decodeByte c chk b x) r = { r with chk := ds, chkLen := 5 } := by
  have store : ∀ new, ∀ b ∈ ds, ∀ o old, (new ++ b :: old).length = 5 →
      decodeByte c chk b (holdingChecksum r new (o :: old)) = holdingChecksum r (new ++ [b]) old := by
    intro new b hb o old hlen
    have hlt : new.length < 5 := by
      rw [List.length_append, List.length_cons] at hlen
      omega
    rw [decodeByte_digit (hd b hb) rfl hlt]
    simp [holdingChecksum]
  calc ds.foldl (fun x b => decodeByte c chk b x) r
      = ds.foldl (fun x b => decodeByte c chk b x) (holdingChecksum r [] r.chk) := by simp [holdingChecksum, ← hr, ← hn]
    _ = holdingChecksum r ds [] := foldl_fills store [] r.chk (hb.trans hl.symm) hl
    _ = { r with chk := ds, chkLen := 5 } := by simp [holdingChecksum, hr, hl]

/-! ### The whole frame -/

/-- START and the payload, in either mode. -/
theorem foldl_start_payload {c : Config} {chk : Bool} {p : List Byte} {r : Rx} (hl : p.length = c.nCap)
    (hu : Unreserved c chk p) (hr : r.phase = .idle) (hb : r.buf.length = c.nCap) :
    (c.startMark :: p).foldl (fun x b => decodeByte c chk b x) r = { startFrame r with buf := p, len := c.nCap } := by
  rw [List.foldl_cons, decodeByte_start (classify_startMark c chk) (by simp [hr])]
  exact foldl_payload hu.classify_other hl rfl rfl hb

/-- DELIM and the checksum's digits, behind the payload. -/
theorem foldl_delim_digits {c : Config} {r : Rx} (hwf : c.wf = true) (hr : r.phase = .readingPayload)
    (hk : r.chk.length = 5) (v : Half) :
    (c.delim :: dec5 v).foldl (fun x b => decodeByte c true b x) r =
      { r with phase := .readingChecksum, chk := dec5 v, chkLen := 5 } := by
  rw [List.foldl_cons, decodeByte_delim (classify_delim hwf) hr]
  exact foldl_checksum (fun b hb => classify_digit hwf true (dec5_digits v b hb)) (dec5_length v) rfl rfl hk

theorem foldl_encodeFrame_off {c : Config} {p : List Byte} {r : Rx} (hwf : c.wf = true) (hl : p.length = c.nCap)
    (hu : Unreserved c false p) (hr : r.phase = .idle) (hb : r.buf.length = c.nCap) :
    (encodeFrame c p false).foldl (fun x b => decodeByte c false b x) r =
      { startFrame r with phase := .frameComplete, buf := p, len := c.nCap } := by
  have hframe : encodeFrame c p false = (c.startMark :: p) ++ [c.endMark] := rfl
  rw [hframe, List.foldl_append, foldl_start_payload hl hu hr hb, List.foldl_cons, List.foldl_nil,
    decodeByte_stop (classify_endMark hwf false) (.inl rfl)]

theorem foldl_encodeFrame_on {c : Config} {p : List Byte} {r : Rx} (hwf : c.wf = true) (hl : p.length = c.nCap)
    (hu : Unreserved c true p) (hr : r.phase = .idle) (hb : r.buf.length = c.nCap) (hk : r.chk.length = 5) :
    (encodeFrame c p true).foldl (fun x b => decodeByte c true b x) r =
      { startFrame r with
        phase := .frameComplete, buf := p, len := c.nCap, chk := dec5 (compute p), chkLen := 5 } := by
  have hframe : encodeFrame c p true = (c.startMark :: p) ++ ((c.delim :: dec5 (compute p)) ++ [c.endMark]) := rfl
  rw [hframe, List.foldl_append, foldl_start_payload hl hu hr hb, List.foldl_append,
    foldl_delim_digits hwf rfl ?_, List.foldl_cons, List.foldl_nil,
    decodeByte_stop (classify_endMark hwf true) (.inr rfl)]
  exact hk

/-- A payload verifies against its own checksum (42_checksum.md R198 (a)). -/
theorem verify_compute (p : List Byte) : verify p (some (compute p)) true = true := by
  have hsum : ((2 ^ 16 - (sum16 p).toNat) % 2 ^ 16 + (sum16 p).toNat) % 2 ^ 16 = 0 := by
    have h := (sum16 p).isLt
    omega
  simp only [verify, compute, BitVec.toNat_ofNat, hsum]
  decide

/-- Settles O29: the decoder's state after the whole frame, in each mode; the digits it holds read back as the checksum. -/
theorem encodedFrameRoundTrips : Obligations.EncodedFrameRoundTrips := by
  intro c chk p r hwf hl hu hr hb hk u
  have htake : p.take c.nCap = p := List.take_of_length_le hl.le
  cases chk with
  | false =>
    have hrun : u = { startFrame r with phase := .frameComplete, buf := p, len := c.nCap } :=
      foldl_encodeFrame_off hwf hl hu hr hb
    rw [hrun]
    exact ⟨rfl, rfl, rfl, rfl, rfl, nofun, rfl⟩
  | true =>
    have hrun : u = { startFrame r with
        phase := .frameComplete, buf := p, len := c.nCap, chk := dec5 (compute p), chkLen := 5 } :=
      foldl_encodeFrame_on hwf hl hu hr hb hk
    rw [hrun]
    refine ⟨rfl, rfl, rfl, rfl, rfl, fun _ => ⟨rfl, rfl⟩, ?_⟩
    rw [if_pos rfl, htake, parseChk_dec5, verify_compute]

end Sys2Proof.Machine

/-! ## The payload formats and the frame's length (40_encode.md R121 to R125; 30_encoding.md R101)

What each numeric format gives in each of its cases; from that the lengths, and what the digits read back as. -/

namespace Sys2Proof.Machine

/-! ### The numeric formats, case by case (R123, R124) -/

theorem fmtUint_of_fits {nCap n : Nat} (h : (dec n).length ≤ nCap) :
    fmtUint nCap n = List.replicate (nCap - (dec n).length) zeroByte ++ dec n := by
  unfold fmtUint fitRight
  split_ifs with hn
  · rw [List.take_of_length_le h, Nat.sub_eq_zero_of_le hn, List.replicate_zero, List.nil_append]
  · rfl

theorem fmtUint_of_long {nCap n : Nat} (h : nCap ≤ (dec n).length) : fmtUint nCap n = (dec n).take nCap := if_pos h

/-- TX_NUM as s32 (10_state.md R26). -/
theorem toInt_word (w : Word) : w.toInt = if w.toNat < 2 ^ 31 then (w.toNat : Int) else (w.toNat : Int) - 2 ^ 32 := by
  rw [BitVec.toInt_eq_toNat_cond]
  split_ifs <;> omega

theorem fmtSint_of_nonneg (nCap : Nat) {v : Int} (h : 0 ≤ v) : fmtSint nCap v = fmtUint nCap v.toNat := if_pos h

theorem fmtSint_zero_of_neg {v : Int} (h : v < 0) : fmtSint 0 v = [] := by
  simp [fmtSint, Int.not_le.mpr h]

/-- Behind the sign a negative value's magnitude is padded, or cut off, as FmtUint does it. -/
theorem fmtSint_succ_of_neg (n : Nat) {v : Int} (h : v < 0) :
    fmtSint (n + 1) v = minusByte :: fmtUint n (-v).toNat := by
  simp only [fmtSint, if_neg (Int.not_le.mpr h), fmtUint, fitRight, List.length_cons, Nat.add_le_add_iff_right,
    List.take_succ_cons, Nat.add_sub_add_right]
  split_ifs <;> rfl

theorem fmtSint_of_neg_long {nCap : Nat} {v : Int} (hv : v < 0) (h : nCap ≤ (dec (-v).toNat).length) :
    fmtSint nCap v = (minusByte :: dec (-v).toNat).take nCap := by
  cases nCap with
  | zero => exact fmtSint_zero_of_neg hv
  | succ n => rw [fmtSint_succ_of_neg n hv, fmtUint_of_long (Nat.le_of_succ_le h), List.take_succ_cons]

/-! ### Lengths -/

theorem length_fitRight (n : Nat) (b : Byte) (s : List Byte) : (fitRight n b s).length = n := by
  unfold fitRight
  split_ifs with h
  · exact List.length_take_of_le h
  · rw [List.length_append, List.length_replicate]
    omega

theorem length_fmtText {nCap : Nat} (len : Nat) {buf : List Byte} (h : buf.length = nCap) :
    (fmtText nCap len buf).length = nCap := by
  simp [fmtText, h]

theorem length_fmtUint (nCap num : Nat) : (fmtUint nCap num).length = nCap := length_fitRight ..

theorem length_fmtSint (nCap : Nat) (v : Int) : (fmtSint nCap v).length = nCap := by
  rcases Int.lt_or_le v 0 with hv | hv
  · cases nCap with
    | zero => rw [fmtSint_zero_of_neg hv, List.length_nil]
    | succ n => rw [fmtSint_succ_of_neg n hv, List.length_cons, length_fmtUint]
  · rw [fmtSint_of_nonneg nCap hv, length_fmtUint]

theorem length_formatPayload {nCap : Nat} (fmt : Fmt) (len : Half) (num : Word) {buf : List Byte}
    (h : buf.length = nCap) : (formatPayload nCap fmt len num buf).length = nCap := by
  cases fmt with
  | text => exact length_fmtText _ h
  | uint => exact length_fmtUint ..
  | sint => exact length_fmtSint ..

/-- START and END, and in checksum mode DELIM and five digits. -/
theorem length_encodeFrame (c : Config) (p : List Byte) (chk : Bool) :
    (encodeFrame c p chk).length = p.length + (if chk then 8 else 2) := by
  cases chk <;> simp [encodeFrame, dec5_length]

/-- Settles O30: the payload's length in each format, and the frame around it. -/
theorem payloadAndFrameLengths : Obligations.PayloadAndFrameLengths := by
  intro s h
  have hp := length_formatPayload s.ctrl.fmt s.txLen s.txNum h
  exact ⟨hp, by rw [txFrame, length_encodeFrame, txPayload, hp]⟩

/-! ### The text format (R122) -/

/-- Settles O31: byte `i` is in the part taken from TXBUF, or in the padding behind it. -/
theorem textPayloadBytes : Obligations.TextPayloadBytes := by
  intro nCap len i buf hb hi
  refine ⟨length_fmtText len hb, ?_⟩
  have hl : (buf.take (min len nCap)).length = min len nCap := List.length_take_of_le (by omega)
  split_ifs with h
  · rw [fmtText, List.getElem?_append_left (by omega), List.getElem?_take_of_lt h]
  · rw [fmtText, List.getElem?_append_right (by omega), hl, List.getElem?_replicate, if_pos (by omega)]
    rfl

/-! ### What the digits read back as -/

theorem fmtUint_digits {nCap n : Nat} (h : (dec n).length ≤ nCap) :
    ∀ b ∈ fmtUint nCap n, 0x30 ≤ b.toNat ∧ b.toNat ≤ 0x39 := by
  rw [fmtUint_of_fits h, List.forall_mem_append]
  refine ⟨fun b hb => ?_, dec_digits n⟩
  rw [List.eq_of_mem_replicate hb]
  decide

/-- Zeros in front of a digit string do not change what it reads as. -/
theorem foldl_fmtUint {nCap n : Nat} (h : (dec n).length ≤ nCap) :
    (fmtUint nCap n).foldl (fun a b => 10 * a + (b.toNat - 0x30)) 0 = n := by
  have zeros (k : Nat) : (List.replicate k zeroByte).foldl (fun a b => 10 * a + (b.toNat - 0x30)) 0 = 0 := by
    induction k with
    | zero => rfl
    | succ k ih => exact ih
  rw [fmtUint_of_fits h, List.foldl_append, zeros, foldl_dec]

/-- A negative value that fits is '-' and digits that read back as its magnitude. -/
theorem fmtSint_of_neg_fits {nCap : Nat} {v : Int} (hv : v < 0) (h : (dec (-v).toNat).length < nCap) :
    ∃ ds, fmtSint nCap v = minusByte :: ds ∧ ds.length + 1 = nCap ∧ (∀ b ∈ ds, 0x30 ≤ b.toNat ∧ b.toNat ≤ 0x39) ∧
      -((ds.foldl (fun a b => 10 * a + (b.toNat - 0x30)) 0 : Nat) : Int) = v := by
  obtain ⟨n, rfl⟩ := Nat.exists_eq_add_one_of_ne_zero (Nat.ne_zero_of_lt h)
  have hfit : (dec (-v).toNat).length ≤ n := Nat.le_of_lt_succ h
  refine ⟨fmtUint n (-v).toNat, fmtSint_succ_of_neg n hv, by rw [length_fmtUint], fmtUint_digits hfit, ?_⟩
  rw [foldl_fmtUint hfit]
  omega

/-- Settles O33: FMT selects the format, and each numeric format goes by the length of its digits. -/
theorem numericPayloadsReadBack : Obligations.NumericPayloadsReadBack := by
  refine ⟨fun nCap len num buf => ⟨rfl, rfl, congrArg (fmtSint nCap) (toInt_word num)⟩, fun nCap n v => ?_⟩
  exact ⟨fun h => ⟨length_fmtUint nCap n, fmtUint_digits h, foldl_fmtUint h⟩, fmtUint_of_long, fmtSint_of_nonneg nCap,
    fmtSint_of_neg_fits, fmtSint_of_neg_long⟩

end Sys2Proof.Machine

/-! ## The decoder's transition table and its receive lock (41_decode.md R150 to R170)

The cells that an encoded frame meets stand above; here are the others. -/

namespace Sys2Proof.Machine

/-! ### The cells of the table -/

theorem classify_ne_start {c : Config} {b : Byte} (hs : b ≠ c.startMark) (chk : Bool) : classify c chk b ≠ .start := by
  rw [classify, if_neg hs]
  split_ifs <;> exact ByteClass.noConfusion

/-- Idle waits for START (R155 to R157). -/
theorem decodeByte_idle {c : Config} {chk : Bool} {b : Byte} {r : Rx} (hb : classify c chk b ≠ .start)
    (hp : r.phase = .idle) : decodeByte c chk b r = r := by
  cases hc : classify c chk b with
  | start => exact absurd hc hb
  | delim | stop | other => simp only [decodeByte, hp, hc]

/-- Past its capacity a payload is cut: with checksum mode off the frame then completes (R162, R163). -/
theorem decodeByte_payload_full {c : Config} {chk : Bool} {b : Byte} {r : Rx} (hb : classify c chk b = .other)
    (hp : r.phase = .readingPayload) (hl : c.nCap ≤ r.len) :
    decodeByte c chk b r = if chk then { r with trunc := true } else { r with trunc := true, phase := .frameComplete } := by
  simp only [decodeByte, hp, hb, takePayloadByte, if_neg (Nat.not_lt_of_le hl)]

/-- A repeated delimiter neither restarts the field nor counts toward it (R165). -/
theorem decodeByte_second_delim {c : Config} {chk : Bool} {b : Byte} {r : Rx} (hb : classify c chk b = .delim)
    (hp : r.phase = .readingChecksum) : decodeByte c chk b r = r := by
  simp only [decodeByte, hp, hb]

/-- A sixth byte of the field completes the frame (R168). -/
theorem decodeByte_digit_full {c : Config} {chk : Bool} {b : Byte} {r : Rx} (hb : classify c chk b = .other)
    (hp : r.phase = .readingChecksum) (hl : 5 ≤ r.chkLen) :
    decodeByte c chk b r = { r with chkOvf := true, phase := .frameComplete } := by
  simp only [decodeByte, hp, hb, takeChecksumByte, Config.chkDigits, if_neg (Nat.not_lt_of_le hl)]

/-- The receive lock drops every byte, START included (R170). -/
theorem decodeByte_locked (c : Config) (chk : Bool) (b : Byte) {r : Rx} (hp : r.phase = .frameComplete) :
    decodeByte c chk b r = r := by
  simp only [decodeByte, hp]

/-- Settles O25: each cell by the class of its byte, which a well-formed configuration's markers decide. -/
theorem decoderCellsBeforeChecksum : Obligations.DecoderCellsBeforeChecksum := by
  intro c chk b r hwf
  refine ⟨fun hp hs => decodeByte_idle (classify_ne_start hs chk) hp, fun hp hs => ?start, fun hp hd hc => ?delim,
    fun hp he => ?stop, fun hp hs he hd => ?other⟩
  case start =>
    subst hs
    exact decodeByte_start (classify_startMark c chk) (by rcases hp with hp | hp <;> simp [hp])
  case delim =>
    subst hd hc
    exact decodeByte_delim (classify_delim hwf) hp
  case stop =>
    subst he
    exact decodeByte_stop (classify_endMark hwf chk) (.inl hp)
  case other =>
    have hb := classify_other hs he hd
    refine ⟨decodeByte_payload hb hp, fun hl hc => ?_, fun hl hc => ?_⟩ <;> rw [decodeByte_payload_full hb hp hl, hc]
    · exact if_neg Bool.false_ne_true
    · exact if_pos rfl

/-- Settles O26: as O25, for the cells of ReadingChecksum. -/
theorem decoderCellsOfChecksum : Obligations.DecoderCellsOfChecksum := by
  intro c chk b r hwf hp
  refine ⟨fun hs => ?start, fun hd hc => ?delim, fun he => ?stop, fun hs he hd => ?other⟩
  case start =>
    subst hs
    exact decodeByte_start (classify_startMark c chk) (by simp [hp])
  case delim =>
    subst hd hc
    exact decodeByte_second_delim (classify_delim hwf) hp
  case stop =>
    subst he
    exact decodeByte_stop (classify_endMark hwf chk) (.inr hp)
  case other =>
    have hb := classify_other hs he hd
    exact ⟨decodeByte_digit hb hp, decodeByte_digit_full hb hp⟩

/-! ### The decoder's step and the lock -/

/-- Settles O24, by the two tests of the decoder step. -/
theorem decoderStepTakesOneByte : Obligations.DecoderStepTakesOneByte := by
  refine fun s => ⟨fun h => ?_, fun b q ha hq => ?_⟩
  · rcases decoderStep_cases s with hd | ⟨b, q, ha, hq, _⟩
    · exact hd
    · simp [ha, hq] at h
  · simp only [decoderStep, ha, hq, Bool.false_eq_true, if_false]

theorem decoderStep_locked {s : State} (hp : s.rx.phase = .frameComplete) : (decoderStep s).rx = s.rx := by
  rcases decoderStep_cases s with hd | ⟨b, q, _, _, hd⟩ <;> rw [hd]
  exact decodeByte_locked _ _ b hp

/-- Settles O27: of the ways `RxWrite` knows of changing the decoder state, the decoder's own keeps the lock, and
CHK_VERIFY writes VERIFY only. -/
theorem receiveLockHolds : Obligations.ReceiveLockHolds := by
  refine ⟨fun c chk b r => decodeByte_locked c chk b, fun s t h hp hn => ?_⟩
  have hw := rxWrite_of_step h
  rw [← takeEvent_rx] at hp
  generalize nextEvent s = e at hw
  cases hw with
  | unchanged hrx => exact absurd (hrx ▸ hp) hn
  | decoder => exact absurd (decoderStep_locked hp ▸ hp) hn
  | verified v hrx => exact absurd (hrx ▸ hp) hn
  | rearmed => exact .inr rfl
  | reset => exact .inl rfl

end Sys2Proof.Machine

/-! ## Self-synchronisation (41_decode.md R172)

`SameFrame` says that two decoders show the host the same frame. StartFrame makes any two decoders do so, every byte keeps
it, and what the buffers hold behind the counted bytes never matters. -/

namespace Sys2Proof.Machine

/-- The decoder state's buffers have their capacities (00_scope.md R5). -/
structure Rx.Sized (c : Config) (r : Rx) : Prop where
  buf : r.buf.length = c.nCap
  chk : r.chk.length = 5

/-- Two decoder states show the same frame: all but VERIFY and the bytes past the counts (10_state.md R28 to R30, R43). -/
structure SameFrame (r u : Rx) : Prop where
  phase   : r.phase = u.phase
  len     : r.len = u.len
  chkLen  : r.chkLen = u.chkLen
  trunc   : r.trunc = u.trunc
  chkOvf  : r.chkOvf = u.chkOvf
  payload : r.buf.take r.len = u.buf.take u.len
  field   : r.chk.take r.chkLen = u.chk.take u.chkLen

theorem Rx.Sized.decodeByte {c : Config} {r : Rx} (h : r.Sized c) (chk : Bool) (b : Byte) :
    (decodeByte c chk b r).Sized c := by
  obtain ⟨hbuf, hchk⟩ := decodeByte_lengths c chk b r
  exact ⟨hbuf.trans h.buf, hchk.trans h.chk⟩

theorem take_set_succ {buf : List Byte} {n : Nat} (h : n < buf.length) (b : Byte) :
    (buf.set n b).take (n + 1) = buf.take n ++ [b] := by
  rw [List.take_succ_eq_append_getElem (by simpa using h), List.take_set_of_le (Nat.le_refl n), List.getElem_set_self]

/-- Whatever the decoders held: StartFrame empties both counts and clears both flags (R152). -/
theorem sameFrame_startFrame (r u : Rx) : SameFrame (startFrame r) (startFrame u) := by
  constructor <;> rfl

section
variable {c : Config} {r u : Rx} (h : SameFrame r u) (hr : r.Sized c) (hu : u.Sized c)
include h hr hu

theorem SameFrame.takePayloadByte (chk : Bool) (b : Byte) :
    SameFrame (takePayloadByte c.nCap chk b r) (takePayloadByte c.nCap chk b u) := by
  unfold Machine.takePayloadByte
  by_cases hl : r.len < c.nCap
  · have hl' : u.len < c.nCap := h.len ▸ hl
    rw [if_pos hl, if_pos hl']
    have stored : (r.buf.set r.len b).take (r.len + 1) = (u.buf.set u.len b).take (u.len + 1) := by
      rw [take_set_succ (hr.buf ▸ hl), take_set_succ (hu.buf ▸ hl'), h.payload]
    exact { h with len := congrArg (· + 1) h.len, payload := stored }
  · have hl' : ¬ u.len < c.nCap := h.len ▸ hl
    rw [if_neg hl, if_neg hl']
    cases chk with
    | true => exact { h with trunc := rfl }
    | false => exact { h with trunc := rfl, phase := rfl }

theorem SameFrame.takeChecksumByte (b : Byte) : SameFrame (takeChecksumByte b r) (takeChecksumByte b u) := by
  unfold Machine.takeChecksumByte
  by_cases hl : r.chkLen < Config.chkDigits
  · have hl' : u.chkLen < Config.chkDigits := h.chkLen ▸ hl
    rw [if_pos hl, if_pos hl']
    have stored : (r.chk.set r.chkLen b).take (r.chkLen + 1) = (u.chk.set u.chkLen b).take (u.chkLen + 1) := by
      rw [take_set_succ (hr.chk ▸ hl), take_set_succ (hu.chk ▸ hl'), h.field]
    exact { h with chkLen := congrArg (· + 1) h.chkLen, field := stored }
  · have hl' : ¬ u.chkLen < Config.chkDigits := h.chkLen ▸ hl
    rw [if_neg hl, if_neg hl']
    exact { h with chkOvf := rfl, phase := rfl }

/-- Every cell of the table keeps it: the phases agree, so both decoders are in the same cell. -/
theorem SameFrame.decodeByte (chk : Bool) (b : Byte) : SameFrame (decodeByte c chk b r) (decodeByte c chk b u) := by
  unfold Machine.decodeByte
  rw [← h.phase]
  cases r.phase with
  | idle =>
    cases classify c chk b with
    | start => exact sameFrame_startFrame r u
    | delim | stop | other => exact h
  | readingPayload =>
    cases classify c chk b with
    | start => exact sameFrame_startFrame r u
    | delim => exact { h with phase := rfl, chkLen := rfl, field := rfl }
    | stop => exact { h with phase := rfl }
    | other => exact h.takePayloadByte hr hu chk b
  | readingChecksum =>
    cases classify c chk b with
    | start => exact sameFrame_startFrame r u
    | delim => exact h
    | stop => exact { h with phase := rfl }
    | other => exact h.takeChecksumByte hr hu b
  | frameComplete => exact h

end

theorem SameFrame.foldl {c : Config} (chk : Bool) (bs : List Byte) : ∀ {r u : Rx}, SameFrame r u → r.Sized c → u.Sized c →
    SameFrame (bs.foldl (fun y b => Machine.decodeByte c chk b y) r)
      (bs.foldl (fun y b => Machine.decodeByte c chk b y) u) := by
  induction bs with
  | nil => exact fun h _ _ => h
  | cons b bs ih => exact fun h hr hu => ih (h.decodeByte hr hu chk b) (hr.decodeByte chk b) (hu.decodeByte chk b)

/-- Settles O28: after START both decoders show the same, empty, frame, and the bytes that follow keep it the same. -/
theorem startByteResynchronises : Obligations.StartByteResynchronises := by
  intro c chk r u bs _ hr hu hrb hub hrc huc run
  have start {x : Rx} (hx : x.phase ≠ .frameComplete) : decodeByte c chk c.startMark x = startFrame x :=
    decodeByte_start (classify_startMark c chk) hx
  have same : SameFrame (run r) (run u) := by
    simp only [run, List.foldl_cons, start hr, start hu]
    exact (sameFrame_startFrame r u).foldl chk bs ⟨hrb, hrc⟩ ⟨hub, huc⟩
  rw [start hr]
  exact ⟨rfl, rfl, rfl, same.phase, same.len, same.chkLen, same.trunc, same.chkOvf, same.payload, same.field⟩

end Sys2Proof.Machine

/-! ## The checksum laws (42_checksum.md R190, R191, R198)

Compute is the negated sum, so what a change of the payload does to the checksum is what it does to `sum16`. -/

namespace Sys2Proof.Machine

theorem compute_eq_neg (p : List Byte) : compute p = -sum16 p := by
  apply BitVec.eq_of_toNat_eq
  rw [compute, BitVec.toNat_ofNat, BitVec.toNat_neg]

theorem sum16_append (p q : List Byte) : sum16 (p ++ q) = sum16 p + sum16 q := by
  rw [sum16, byteSum, List.map_append, List.sum_append, BitVec.ofNat_add]
  rfl

theorem sum16_cons (b : Byte) (p : List Byte) : sum16 (b :: p) = b.setWidth 16 + sum16 p := by
  rw [sum16, byteSum, List.map_cons, List.sum_cons, BitVec.ofNat_add, BitVec.ofNat_toNat]
  rfl

theorem sum16_perm {p q : List Byte} (h : p.Perm q) : sum16 p = sum16 q := by
  rw [sum16, sum16, byteSum, byteSum, (h.map _).sum_eq]

/-- Setting byte `i` moves the sum by the difference of the new byte and the old one. -/
theorem sum16_set (b : Byte) : ∀ {p : List Byte} {i : Nat}, i < p.length →
    sum16 (p.set i b) = sum16 p + (b.setWidth 16 - (p.getD i 0).setWidth 16) := by
  intro p
  induction p with
  | nil => exact fun h => absurd h (Nat.not_lt_zero _)
  | cons a p ih =>
    intro i hi
    cases i with
    | zero =>
      rw [List.set_cons_zero, List.getD_cons_zero, sum16_cons, sum16_cons]
      ring
    | succ i =>
      rw [List.set_cons_succ, List.getD_cons_succ, sum16_cons, sum16_cons, ih (Nat.lt_of_succ_lt_succ hi), add_assoc]

/-- The checksum changes by the opposite of what the sum changes by (R198 (e)). -/
theorem compute_set (b : Byte) {p : List Byte} {i : Nat} (h : i < p.length) :
    compute (p.set i b) = compute p - (b.setWidth 16 - (p.getD i 0).setWidth 16) := by
  rw [compute_eq_neg, compute_eq_neg, sum16_set b h, neg_add, sub_eq_add_neg (-sum16 p)]

theorem setWidth_byte_inj {a b : Byte} (h : a.setWidth 16 = b.setWidth 16) : a = b := by
  bv_omega

/-- Doubling loses only the top bit of the 16, so beside 0 just the sum 2^15 doubles to 0 (R198 (b)). -/
theorem double_compute_eq_zero_iff (p : List Byte) :
    compute p + compute p = 0 ↔ sum16 p = 0 ∨ sum16 p = 32768 := by
  rw [compute_eq_neg]
  bv_omega

/-- Settles O34: Compute is the negated sum, so each law is one about the sum of bytes. -/
theorem checksumLaws : Obligations.ChecksumLaws := by
  refine ⟨verify_compute, double_compute_eq_zero_iff, fun p q => ?_, fun p q h => ?_, fun p i b => compute_set b,
    fun p i b hi hb heq => hb ?_⟩
  · rw [compute_eq_neg, compute_eq_neg, compute_eq_neg, sum16_append, neg_add]
  · rw [compute_eq_neg, compute_eq_neg, sum16_perm h]
  · rw [compute_set b hi, sub_eq_self, sub_eq_zero] at heq
    exact setWidth_byte_inj heq

end Sys2Proof.Machine

/-! ## Verify and the two checksum commands (42_checksum.md R194 to R197) -/

namespace Sys2Proof.Machine

/-- Settles O37: the mode is tested before the parse result is looked at. -/
theorem verifyOffIsTrue : Obligations.VerifyOffIsTrue := by
  intro p v
  exact if_neg Bool.false_ne_true

/-- The sum may be truncated before or after the received value is added. -/
theorem verify_some_iff (p : List Byte) (v : Half) :
    verify p (some v) true = true ↔ (v.toNat + byteSum p) % 65536 = 0 := by
  rw [verify, if_pos rfl, beq_iff_eq, sum16, BitVec.toNat_ofNat, Nat.add_mod_mod]

theorem rxParsed_off (r : Rx) : rxParsed false r = none := if_neg Bool.false_ne_true

theorem rxParsed_on (r : Rx) : rxParsed true r = parseChk r.chk r.chkLen := if_pos rfl

theorem verdict_off (r : Rx) :
    verdict false r = { valid := true, ok := true, parsed := false, mode := false, value := 0 } := by
  rw [verdict, rxParsed_off, verifyOffIsTrue]
  rfl

theorem verdict_malformed {r : Rx} (h : parseChk r.chk r.chkLen = none) :
    verdict true r = { valid := true, ok := false, parsed := false, mode := true, value := 0 } := by
  rw [verdict, rxParsed_on, h]
  rfl

theorem verdict_parsed {r : Rx} {v : Half} (h : parseChk r.chk r.chkLen = some v) :
    verdict true r =
      { valid := true, ok := verify (rxPayload r) (some v) true, parsed := true, mode := true, value := v } := by
  rw [verdict, rxParsed_on, h]
  rfl

/-- Settles O11: the two cases of the command, and in the accepted one the three verdicts. -/
theorem chkVerifyJudgesTheFrame : Obligations.ChkVerifyJudgesTheFrame := by
  intro s
  rcases execChkVerify_cases s with ⟨hp, he⟩ | ⟨hp, he⟩
  · exact ⟨fun _ => he, fun h => absurd h hp⟩
  · refine ⟨fun h => absurd hp h, fun _ => ⟨_, he, rfl, rfl, rfl, fun hoff => ?off, fun hon => ?on⟩⟩
    case off =>
      dsimp only
      rw [hoff, verdict_off]
      exact ⟨rfl, rfl, rfl⟩
    case on =>
      dsimp only
      rw [hon]
      cases hparse : parseChk s.rx.chk s.rx.chkLen with
      | none =>
        rw [verdict_malformed hparse]
        exact ⟨rfl, rfl, rfl⟩
      | some v =>
        rw [verdict_parsed hparse]
        exact ⟨rfl, rfl, verify_some_iff (rxPayload s.rx) v⟩

/-- Settles O10: the value does not depend on CHK_EN, and it is the one whose digits the frame carries. -/
theorem chkComputeWritesTheChecksum : Obligations.ChkComputeWritesTheChecksum := by
  refine fun s b => ⟨rfl, _, _, rfl, rfl, rfl, fun hon => ?_⟩
  rw [txFrame, hon, encodeFrame, if_pos rfl]

end Sys2Proof.Machine

/-! ## The fields that ParseChk accepts (42_checksum.md R193)

A field is its leading spaces and the bytes behind them, and `fieldValue` reads those bytes as a decimal number. -/

namespace Sys2Proof.Machine

/-- The held field is its leading spaces and the bytes behind them. -/
theorem eq_leadingSpaces_append {c : List Byte} (hl : c.length = 5) :
    c = List.replicate (leadingSpaces c) spaceByte ++ c.drop (leadingSpaces c) := by
  have hspaces : c.takeWhile (fun b => b == spaceByte) = List.replicate (leadingSpaces c) spaceByte := by
    refine List.eq_replicate_iff.mpr ⟨by rw [leadingSpaces, List.take_of_length_le hl.le], fun b hb => ?_⟩
    exact eq_of_beq (List.mem_takeWhile_imp (p := fun b => b == spaceByte) hb)
  have hsplit : c = List.replicate (leadingSpaces c) spaceByte ++ c.dropWhile (fun b => b == spaceByte) := by
    rw [← hspaces, List.takeWhile_append_dropWhile]
  have hrest : c.drop (leadingSpaces c) = c.dropWhile (fun b => b == spaceByte) := by
    rw [congrArg (List.drop (leadingSpaces c)) hsplit, List.drop_left' List.length_replicate]
  rw [hrest, ← hsplit]

/-- Spaces in front of a digit are the leading ones. -/
theorem leadingSpaces_replicate_append {j : Nat} {ds : List Byte} (hl : j + ds.length = 5) (hj : j < 5)
    (hd : ∀ b ∈ ds, isDigit b = true) : leadingSpaces (List.replicate j spaceByte ++ ds) = j := by
  cases ds with
  | nil => exact absurd hl hj.ne
  | cons d ds =>
    have hspace : (d == spaceByte) = false := by
      rw [beq_eq_false_iff_ne]
      rintro rfl
      exact absurd (hd spaceByte List.mem_cons_self) (by decide)
    rw [leadingSpaces, List.take_of_length_le (by simp [← hl]), List.takeWhile_append_of_pos (by simp),
      List.takeWhile_cons_of_neg (by simp [hspace]), List.append_nil, List.length_replicate]

/-- The places `j..4` of a field hold the bytes behind its first `j`. -/
theorem map_getD_range' {c : List Byte} (hl : c.length = 5) (j : Nat) :
    (List.range' j (5 - j)).map (fun k => c.getD k 0) = c.drop j := by
  refine List.ext_getElem (by simp [hl]) fun k hk hk' => ?_
  have hlt : j + k < c.length := by
    rw [List.length_drop] at hk'
    omega
  simp [hlt]

theorem any_not_digit_eq_false_iff {c : List Byte} (hl : c.length = 5) (j : Nat) :
    (List.range' j (5 - j)).any (fun k => !isDigit (c.getD k 0)) = false ↔ ∀ b ∈ c.drop j, isDigit b = true := by
  rw [← map_getD_range' hl j, List.any_eq_false, List.forall_mem_map]
  simp

/-- The decimal number that a digit string writes, most significant digit first. -/
def decimalValue (ds : List Byte) : Nat := ds.foldl (fun a b => 10 * a + (b.toNat - 0x30)) 0

/-- What is read before a digit string is weighed by its length. -/
theorem foldl_digits (ds : List Byte) (a : Nat) :
    ds.foldl (fun a b => 10 * a + (b.toNat - 0x30)) a = a * 10 ^ ds.length + decimalValue ds := by
  induction ds generalizing a with
  | nil => simp [decimalValue]
  | cons b ds ih =>
    rw [decimalValue, List.foldl_cons, List.foldl_cons, ih, ih, List.length_cons]
    ring

theorem decimalValue_cons (b : Byte) (ds : List Byte) :
    decimalValue (b :: ds) = (b.toNat - 0x30) * 10 ^ ds.length + decimalValue ds := by
  rw [decimalValue, List.foldl_cons, foldl_digits, Nat.mul_zero, Nat.zero_add]

theorem fieldValue_of_le {j : Nat} (h : 5 ≤ j) (c : List Byte) : fieldValue c j = 0 := by
  rw [fieldValue, Nat.sub_eq_zero_of_le h]
  rfl

theorem fieldValue_of_lt {j : Nat} (h : j < 5) (c : List Byte) :
    fieldValue c j = ((c.getD j 0).toNat - 0x30) * 10 ^ (4 - j) + fieldValue c (j + 1) := by
  have hcount : 5 - j = 5 - (j + 1) + 1 := by omega
  rw [fieldValue, fieldValue, hcount, List.range'_succ, List.map_cons, List.sum_cons]

/-- The weighted sum of R193 reads the bytes from place `j` on as a decimal number. -/
theorem fieldValue_eq_decimalValue {c : List Byte} (hl : c.length = 5) (j : Nat) :
    fieldValue c j = decimalValue (c.drop j) := by
  have hlen : (c.drop j).length = 5 - j := by rw [List.length_drop, hl]
  induction hc : c.drop j generalizing j with
  | nil =>
    rw [hc, List.length_nil] at hlen
    exact fieldValue_of_le (by omega) c
  | cons b ds ih =>
    rw [hc, List.length_cons] at hlen
    have hb : c.getD j 0 = b := by
      rw [List.getD_eq_getElem?_getD, ← Nat.add_zero j, ← List.getElem?_drop, hc]
      rfl
    have hrest : c.drop (j + 1) = ds := by rw [← List.tail_drop, hc, List.tail_cons]
    have hplace : 4 - j = ds.length := by omega
    rw [fieldValue_of_lt (by omega), hb, hplace, ih (j + 1) (by rw [List.length_drop, hl]) hrest, decimalValue_cons]

/-- ParseChk answers a number when none of its four tests fails, and then it is the value of the digits. -/
theorem parseChk_eq_some_iff {c : List Byte} (hl : c.length = 5) (n : Nat) (v : Half) :
    parseChk c n = some v ↔ n = 5 ∧ leadingSpaces c < 5 ∧ (∀ b ∈ c.drop (leadingSpaces c), isDigit b = true) ∧
      fieldValue c (leadingSpaces c) = v.toNat := by
  have hj : leadingSpaces c ≤ 5 := (List.takeWhile_sublist _).length_le.trans (List.length_take_le 5 c)
  have hv := v.isLt
  rw [← any_not_digit_eq_false_iff hl, parseChk]
  split_ifs with hn hs hd hf
  · exact iff_of_false nofun fun ⟨h5, _⟩ => hn h5
  · exact iff_of_false nofun fun ⟨_, hlt, _⟩ => hlt.ne hs
  · exact iff_of_false nofun fun ⟨_, _, hdigits, _⟩ => Bool.false_ne_true (hdigits.symm.trans hd)
  · exact iff_of_false nofun fun ⟨_, _, _, hval⟩ => by omega
  · have hval : fieldValue c (leadingSpaces c) % 2 ^ 16 = fieldValue c (leadingSpaces c) := Nat.mod_eq_of_lt (by omega)
    rw [Option.some.injEq, ← BitVec.toNat_inj, BitVec.toNat_ofNat, hval]
    exact ⟨fun h => ⟨not_not.mp hn, lt_of_le_of_ne hj hs, Bool.eq_false_of_not_eq_true hd, h⟩, fun ⟨_, _, _, h⟩ => h⟩

/-- Settles O35: the leading spaces of an accepted field are the spaces, and what is left of it the digits. -/
theorem parseChkAccepts : Obligations.ParseChkAccepts := by
  intro c n v hl
  rw [parseChk_eq_some_iff hl, fieldValue_eq_decimalValue hl]
  constructor
  · rintro ⟨hn, hj, hd, hv⟩
    exact ⟨hn, leadingSpaces c, _, hj, eq_leadingSpaces_append hl, fun b hb => (isDigit_iff b).mp (hd b hb), hv⟩
  · rintro ⟨hn, j, ds, hj, rfl, hd, hv⟩
    have hdigits : ∀ b ∈ ds, isDigit b = true := fun b hb => (isDigit_iff b).mpr (hd b hb)
    have hs : leadingSpaces (List.replicate j 0x20 ++ ds) = j :=
      leadingSpaces_replicate_append (by simpa using hl) hj hdigits
    rw [hs, List.drop_left' List.length_replicate]
    exact ⟨hn, hj, hdigits, hv⟩

end Sys2Proof.Machine

/-! ## Elapsed time (43_link_controller.md R210, R211) -/

namespace Sys2Proof.Machine

/-- Subtraction of two clock readings modulo 2^32 (R210). -/
theorem toNat_elapsed (now since : Word) :
    ((elapsed now since).toNat : Int) = ((now.toNat : Int) - since.toNat) % 2 ^ 32 := by
  rw [elapsed, BitVec.toNat_sub]
  omega

theorem txReady_iff (s : State) :
    txReady s = true ↔
      s.link.sending = false ∧ s.cfg.transferDelay.toNat ≤ (elapsed s.now s.link.lastSend).toNat := by
  simp [txReady]

/-- Settles O20: the flag's two conditions, the second one in integers. -/
theorem txReadyIsSpacingElapsed : Obligations.TxReadyIsSpacingElapsed := by
  refine ⟨toNat_elapsed, fun s => ?_⟩
  rw [txReady_iff, ← toNat_elapsed, Nat.cast_le]

end Sys2Proof.Machine

/-! ## What each command leaves alone (43_link_controller.md R230 to R235; 60_exceptions.md R300) -/

namespace Sys2Proof.Machine

/-- A NOP word is its OPC alone, so any other word of that OPC has a reserved bit set (30_encoding.md R93). -/
theorem decode_of_nop_opcode {w : Word} (ho : opcOf w = 0x00) (hw : w ≠ 0) : decode w = .reservedBits := by
  refine (decode_eq_reservedBits_iff w).mpr ⟨by rw [ho]; decide, (reservedSet_iff w).mpr ?_⟩
  by_contra! h
  obtain ⟨hr, ha⟩ := h
  have harg : argOf w = 0 := ha (by rw [ho]; decide)
  exact hw (by rw [word_eq_fields w, hr, harg, ho]; rfl)

/-- Settles O8: the command's one effect, and the rejection of every other word of its OPC. -/
theorem nopWritesOnlyItsStatus : Obligations.NopWritesOnlyItsStatus := by
  refine fun s => ⟨rfl, fun w ho hw => ?_⟩
  rw [issueCommand, decode_of_nop_opcode ho hw, ho]
  rfl

theorem verifyWord_eq_zero {s : State}
    (h : s.rx.verify = { valid := false, ok := false, parsed := false, mode := false, value := 0 }) :
    verifyWord s = 0 := by
  rw [verifyWord, h]
  decide

/-- Settles O9: what RX_REARM leaves is said in full, so clearing it again changes nothing. -/
theorem rxRearmClearsTheFrame : Obligations.RxRearmClearsTheFrame :=
  fun _ => ⟨_, rfl, rfl, verifyWord_eq_zero rfl, rfl⟩

/-- No command stores to a byte of any buffer. -/
theorem CommandStep.buffer {s t : State} {i : Instr} (h : CommandStep s i t) (b : Buffer) :
    t.buffer b = s.buffer b := by
  cases h <;> cases b <;> rfl

/-- Settles O7: buffer by buffer, then the registers in each of the ways a command's step can end. -/
theorem commandsLeaveTheRest : Obligations.CommandsLeaveTheRest := by
  intro i s t h
  have hx := commandStep_of_exec i h
  refine ⟨fun b n => by rw [State.byteAt, hx.buffer, State.byteAt], ?_⟩
  cases hx <;> simp [rearm]

theorem badCommandLength_eq_false_iff (s : State) :
    badCommandLength s = false ↔ 1 ≤ s.cmdLen.toNat ∧ s.cmdLen.toNat ≤ s.cfg.cmdCap := by
  simp [badCommandLength, Nat.one_le_iff_ne_zero]

section Acceptance

variable {s : State} (hb : s.busy = false)
include hb

theorem exec_sendCommand_accepted (hl : badCommandLength s = false) :
    exec .sendCommand s
      = .next (startCommandMode .sendCommand 0x10 .direct { bytes := commandText s, arg := 0 } s) := by
  simp only [exec, execSendCommand, hb, hl, Bool.false_eq_true, if_false]

theorem exec_probe_accepted (hl : badCommandLength s = false) :
    exec .probe s = .next (startCommandMode .probe 0x11 .search { bytes := commandText s, arg := 0 } s) := by
  simp only [exec, execProbe, hb, hl, Bool.false_eq_true, if_false]

theorem exec_detectSpeed_accepted :
    exec .detectSpeed s = .next (startCommandMode .detectSpeed 0x12 .search { bytes := [], arg := 0 } s) := by
  simp only [exec, execDetectSpeed, hb, Bool.false_eq_true, if_false]

theorem exec_forceDefault_accepted :
    exec .forceDefault s = .next (startCommandMode .forceDefault 0x13 .search { bytes := [], arg := 0 } s) := by
  simp only [exec, execForceDefault, hb, Bool.false_eq_true, if_false]

theorem exec_setSpeedSafely_accepted {u : Byte} (hu : u.toNat < s.cfg.k) :
    exec (.setSpeedSafely u) s
      = .next { startCommandMode .setSpeedSafely 0x14 .direct { bytes := [], arg := u } s with
          setSpeed := { s.setSpeed with valid := false } } := by
  simp only [exec, execSetSpeedSafely, hb, hu.not_ge, Bool.false_eq_true, if_false]

end Acceptance

/-- Settles O13: each acceptance leaves the state `startCommandMode` says, which has every clause by definition. -/
theorem commandModeCommandsAccepted : Obligations.CommandModeCommandsAccepted := by
  intro s hb
  refine ⟨fun h1 hcap => ?_, ?_, ?_, fun u hu => ?_⟩
  · have hl := (badCommandLength_eq_false_iff s).mpr ⟨h1, hcap⟩
    exact ⟨⟨_, exec_sendCommand_accepted hb hl, rfl, rfl, rfl, rfl, rfl⟩,
      ⟨_, exec_probe_accepted hb hl, rfl, rfl, rfl, rfl⟩⟩
  · exact ⟨_, exec_detectSpeed_accepted hb, rfl, rfl, rfl⟩
  · exact ⟨_, exec_forceDefault_accepted hb, rfl, rfl, rfl, rfl⟩
  · exact ⟨_, exec_setSpeedSafely_accepted hb hu, rfl, rfl, rfl, rfl, rfl⟩

end Sys2Proof.Machine

/-! ## CMD_ACTIVE and BUSY (43_link_controller.md R235)

By the invariant both bits say which command runs, so it is enough to know how a step may change that. -/

namespace Sys2Proof.Machine

theorem Operation.op {s t : State} (h : Operation s t) : t.seq.op = s.seq.op ∨ t.seq.op = none := by
  cases h with
  | endTxSend | endCommandMode | endSettle => exact .inr rfl
  | _ => exact .inl rfl

/-- A sequencer step or a transport acceptance goes on with the running command or ends it. -/
theorem Operations.op {s t : State} (h : Operations s t) : t.seq.op = s.seq.op ∨ t.seq.op = none := by
  refine h.keeps (P := fun u => u.seq.op = s.seq.op ∨ u.seq.op = none) (fun u v ho hu => ?_) (.inl rfl)
  rcases ho.op with hv | hv
  · rwa [hv]
  · exact .inr hv

/-- A command leaves the sequencer as it is, or it is accepted with BUSY 0 and sets BUSY. -/
theorem CommandStep.seq {s t : State} {i : Instr} (h : CommandStep s i t) :
    t.seq = s.seq ∨ (s.busy = false ∧ t.busy = true) := by
  cases h with
  | status | rearmed | computed | verified => exact .inl rfl
  | txSend hb | sendCommand hb | probe hb | detectSpeed hb | forceDefault hb | setSpeedSafely _ hb =>
    exact .inr ⟨hb, rfl⟩

/-- Reaching Wait(CMD_TIME) moves the sequencer's position and nothing else. -/
theorem enterCmdTime_eq (s : State) :
    ∃ p, enterCmdTime s = { s with seq := { s.seq with point := p, t0 := s.now } } := by
  unfold enterCmdTime
  rcases beginWait_cases .cmdTime s.cfg.cmdTime (holdAt .drain) s with ⟨_, h⟩ | ⟨_, h⟩ <;> exact ⟨_, h⟩

/-- So does passing a byte of a command text. -/
theorem afterTextByte_eq (s : State) :
    ∃ p k t0, afterTextByte s = { s with seq := { s.seq with point := p, k := k, t0 := t0 } } := by
  unfold afterTextByte
  split
  · exact ⟨_, _, _, rfl⟩
  · obtain ⟨p, h⟩ := enterCmdTime_eq s
    exact ⟨p, _, _, h⟩

/-- Only TX_SEND ends with a transport acceptance; a text's last byte begins Wait(CMD_TIME). -/
theorem State.Inv.transportAccept_op {s : State} (h : s.Inv) :
    (Machine.transportAccept s).seq.op = s.seq.op ∨
    (Machine.transportAccept s).seq.op = none ∧ s.seq.op = some .txSend := by
  rcases transportAccept_cases s with ⟨_, he⟩ | ⟨b, hb, hpt, he⟩ | ⟨b, _, _, he⟩ <;> rw [he]
  · exact .inl rfl
  · exact (afterFrameByte_operations (Machine.sendByte b s)).op.imp_right fun hn => ⟨hn, (h.op_of_offered hb).1 hpt⟩
  · obtain ⟨p, k, t0, hk⟩ := afterTextByte_eq (Machine.sendByte b s)
    rw [hk]
    exact .inl rfl

/-- The running command stays, or a CMD write with BUSY 0 begins one, or a sequencer step or TX_SEND's last acceptance
ends it. -/
theorem State.Inv.perform_op {s t : State} (h : s.Inv) {e : Event} (hp : Machine.perform e s = .next t)
    (hr : e ≠ .reset) :
    t.seq.op = s.seq.op ∨ (IsCmdWrite e ∧ s.busy = false ∧ t.busy = true) ∨
    (t.seq.op = none ∧ (e = .sequencerStep ∨ s.seq.op = some .txSend)) := by
  cases e with
  | hostRead n a => rw [hostRead_next hp]; exact .inl rfl
  | hostWrite n a v =>
    rcases hostWrite_next hp with ⟨rfl, rfl, hi⟩ | hd
    · rcases issueCommand_next hi with ⟨c, rfl⟩ | ⟨i, _, hx⟩
      · exact .inl rfl
      · exact hx.seq.imp (congrArg Seq.op) fun hb => .inl ⟨⟨v, rfl⟩, hb⟩
    · exact .inl (congrArg Seq.op hd.leavesSequencer.seq)
  | decoderStep => cases hp; exact .inl (congrArg Seq.op (decoderStep_leavesSequencer s).seq)
  | sequencerStep => cases hp; exact (sequencerStep_operations s).op.imp_right fun hn => .inr ⟨hn, .inl rfl⟩
  | transportAccept => cases hp; exact h.transportAccept_op.imp_right fun ⟨hn, ho⟩ => .inr ⟨hn, .inr ho⟩
  | transportDeliver | transportRequeue | clockAdvance => cases hp; exact .inl rfl
  | reset => exact absurd rfl hr

/-- While CMD_ACTIVE is 1 the decoder has no step (41_decode.md R150). -/
theorem decoderStep_of_cmdActive {s : State} (h : s.cmdActive = true) : decoderStep s = s := if_pos h

/-- While CMD_ACTIVE is 1 only a command write changes the decoder state. -/
theorem RxWrite.rx_of_cmdActive {s t : State} {e : Event} (h : RxWrite s e t) (ha : s.cmdActive = true)
    (hr : e ≠ .reset) (hc : ¬ IsCmdWrite e) : t.rx = s.rx := by
  cases h with
  | unchanged hrx => exact hrx
  | decoder => rw [decoderStep_of_cmdActive ha]
  | rearmed | verified => exact absurd ⟨_, rfl⟩ hc
  | reset => exact absurd rfl hr

theorem State.Inv.cmdActive_congr {s t : State} (hs : s.Inv) (ht : t.Inv) (ho : t.seq.op = s.seq.op) :
    t.cmdActive = s.cmdActive := by
  rw [hs.cmdActive, ht.cmdActive, inCommandMode, ho, inCommandMode]

theorem State.Inv.at_rest {s : State} (h : s.Inv) (ho : s.seq.op = none) : s.cmdActive = false ∧ s.busy = false := by
  rw [h.cmdActive, h.busy, inCommandMode, ho]
  exact ⟨rfl, rfl⟩

theorem State.Inv.of_cmdActive {s : State} (h : s.Inv) (ha : s.cmdActive = true) :
    s.busy = true ∧ s.seq.op ≠ some .txSend := by
  have hm := h.cmdActive.symm.trans ha
  exact ⟨(h.running hm).1.busy, fun ho => Bool.false_ne_true ((inCommandMode_of_op ho).symm.trans hm)⟩

/-- Settles O15: in each of the three cases of `perform_op` the invariant, before and after the step, gives both. -/
theorem cmdActiveAndBusyFallTogether : Obligations.CmdActiveAndBusyFallTogether := by
  intro s t hinv hst hr
  obtain ⟨_, hp⟩ := perform_of_step hst
  have hs := takeEvent_leavesSequencer s
  have hrx := rxWrite_of_step hst
  have hu := hinv.takeEvent
  rw [← hs.cmdActive, ← hs.busy, ← takeEvent_rx s]
  generalize takeEvent s = u at hp hu hrx
  have ht := hu.perform hp
  refine ⟨fun h0 h1 => ?_, fun h1 => ?_⟩
  · rcases hu.perform_op hp hr with ho | hc | ⟨hn, _⟩
    · simp [← hu.cmdActive_congr ht ho, h1] at h0
    · exact hc
    · simp [(ht.at_rest hn).1] at h1
  · obtain ⟨hb, htx⟩ := hu.of_cmdActive h1
    have hfalls : t.cmdActive = t.busy ∧ (t.cmdActive = false → nextEvent s = .sequencerStep) := by
      rcases hu.perform_op hp hr with ho | ⟨_, hidle, _⟩ | ⟨hn, he | ho⟩
      · have ha : t.cmdActive = true := (hu.cmdActive_congr ht ho).trans h1
        simp [ha, (ht.of_cmdActive ha).1]
      · simp [hb] at hidle
      · simp [ht.at_rest hn, he]
      · exact absurd ho htx
    exact ⟨hfalls.1, hfalls.2, hrx.rx_of_cmdActive h1 hr⟩

end Sys2Proof.Machine

/-! ## What the sequencer neither reads nor writes

Of the state, a sequencer step does not look at the schedule and has no part in TX_SEND's record of its sending. So it
runs the same on a state that carries another state's schedule, SENDING and LAST_SEND, and these pass through it. -/

namespace Sys2Proof.Machine

/-- `s` with the schedule, SENDING and LAST_SEND of `r`. -/
def State.carrying (s r : State) : State :=
  { s with
    pending := r.pending, link := { s.link with sending := r.link.sending, lastSend := r.link.lastSend } }

section Carrying

variable (r : State)

@[simp] theorem carrying_fields (s : State) :
    (s.carrying r).cfg = s.cfg ∧ (s.carrying r).seq = s.seq ∧ (s.carrying r).probe = s.probe ∧
    (s.carrying r).rxQueue = s.rxQueue ∧ (s.carrying r).link.resp = s.link.resp ∧
    response (s.carrying r) = response s ∧ runningText (s.carrying r) = runningText s := by
  and_intros <;> rfl

@[simp] theorem operations_carrying (s : State) :
    (∀ b, sendByte b (s.carrying r) = (sendByte b s).carrying r) ∧
    (∀ h, setMode h (s.carrying r) = (setMode h s).carrying r) ∧
    (∀ i, reconfigureTo i (s.carrying r) = (reconfigureTo i s).carrying r) ∧
    (∀ d, emit d (s.carrying r) = (emit d s).carrying r) ∧
    endCommandMode (s.carrying r) = (endCommandMode s).carrying r ∧
    endSettle (s.carrying r) = (endSettle s).carrying r ∧
    (∀ p, holdAt p (s.carrying r) = (holdAt p s).carrying r) ∧
    startText (s.carrying r) = (startText s).carrying r ∧
    nextByte (s.carrying r) = (nextByte s).carrying r ∧
    (∀ p, startWait p (s.carrying r) = (startWait p s).carrying r) ∧
    (∀ i, setIndex i (s.carrying r) = (setIndex i s).carrying r) ∧
    (∀ g, setStage g (s.carrying r) = (setStage g s).carrying r) ∧
    (∀ o, setOvf o (s.carrying r) = (setOvf o s).carrying r) ∧
    (∀ a, setAck a (s.carrying r) = (setAck a s).carrying r) ∧
    clearResponse (s.carrying r) = (clearResponse s).carrying r ∧
    (∀ b q, storeResponse b q (s.carrying r) = (storeResponse b q s).carrying r) ∧
    publishResponse (s.carrying r) = (publishResponse s).carrying r ∧
    (∀ p, setProbe p (s.carrying r) = (setProbe p s).carrying r) ∧
    invalidateProbe (s.carrying r) = (invalidateProbe s).carrying r ∧
    publishSetSpeed (s.carrying r) = (publishSetSpeed s).carrying r ∧
    (∀ t, waitOver t (s.carrying r) = waitOver t s) := by
  and_intros <;> intros <;> rfl

section Waits

variable {r} {after : State → State} (hafter : ∀ u, after (u.carrying r) = (after u).carrying r)
include hafter

theorem beginWait_carrying (p : Point) (t : Word) (s : State) :
    beginWait p t after (s.carrying r) = (beginWait p t after s).carrying r := by
  simp only [beginWait, operations_carrying]
  split <;> simp [hafter]

theorem resumeWait_carrying (t : Word) (s : State) :
    resumeWait t after (s.carrying r) = (resumeWait t after s).carrying r := by
  simp only [resumeWait, operations_carrying]
  split <;> simp [hafter]

end Waits

@[simp] theorem enterCmdTime_carrying (s : State) : enterCmdTime (s.carrying r) = (enterCmdTime s).carrying r :=
  beginWait_carrying (by simp) _ _ s

@[simp] theorem enterText_carrying (s : State) : enterText (s.carrying r) = (enterText s).carrying r := by
  simp only [enterText, carrying_fields]
  split <;> simp

@[simp] theorem beginSendCommand_carrying (s : State) :
    beginSendCommand (s.carrying r) = (beginSendCommand s).carrying r :=
  beginWait_carrying (enterText_carrying r) .setLow s.cfg.setLowTime (setMode false (clearResponse s))

@[simp] theorem endSetSpeed_carrying (s : State) : endSetSpeed (s.carrying r) = (endSetSpeed s).carrying r := rfl

@[simp] theorem afterReconf_carrying (s : State) : afterReconf (s.carrying r) = (afterReconf s).carrying r := by
  simp only [afterReconf, carrying_fields]
  split <;> simp

@[simp] theorem switchSpeed_carrying (s : State) : switchSpeed (s.carrying r) = (switchSpeed s).carrying r :=
  beginWait_carrying (afterReconf_carrying r) .reconfPost s.cfg.tReconfPost (reconfigureTo (reconfIndex s) s)

@[simp] theorem beginReconf_carrying (s : State) : beginReconf (s.carrying r) = (beginReconf s).carrying r :=
  beginWait_carrying (switchSpeed_carrying r) _ _ _

@[simp] theorem beginProbeLoop_carrying (s : State) :
    beginProbeLoop (s.carrying r) = (beginProbeLoop s).carrying r := by
  simp [beginProbeLoop]

@[simp] theorem afterProbeLoop_carrying (s : State) :
    afterProbeLoop (s.carrying r) = (afterProbeLoop s).carrying r := by
  simp only [afterProbeLoop, carrying_fields]
  split <;> simp

@[simp] theorem probeResult_carrying (s : State) : probeResult (s.carrying r) = (probeResult s).carrying r := by
  simp only [probeResult, carrying_fields]
  split_ifs <;> simp

@[simp] theorem forceDefaultNext_carrying (s : State) :
    forceDefaultNext (s.carrying r) = (forceDefaultNext s).carrying r := by
  simp only [forceDefaultNext, carrying_fields]
  split <;> simp

@[simp] theorem setSpeedNext_carrying (s : State) : setSpeedNext (s.carrying r) = (setSpeedNext s).carrying r := by
  simp only [setSpeedNext, carrying_fields]
  split <;> simp

@[simp] theorem afterSendCommand_carrying (s : State) :
    afterSendCommand (s.carrying r) = (afterSendCommand s).carrying r := by
  simp only [afterSendCommand, carrying_fields]
  repeat' split
  all_goals simp

@[simp] theorem returnSendCommand_carrying (s : State) :
    returnSendCommand (s.carrying r) = (returnSendCommand s).carrying r := by
  simp [returnSendCommand]

@[simp] theorem endDrain_carrying (o : Bool) (s : State) : endDrain o (s.carrying r) = (endDrain o s).carrying r :=
  beginWait_carrying (returnSendCommand_carrying r) .setHigh s.cfg.setHighTime (setMode true (setOvf o s))

@[simp] theorem drainStep_carrying (s : State) : drainStep (s.carrying r) = (drainStep s).carrying r := by
  simp only [drainStep, carrying_fields]
  split
  · simp
  · split <;> simp

@[simp] theorem startCommand_carrying (s : State) : startCommand (s.carrying r) = (startCommand s).carrying r := by
  simp only [startCommand, carrying_fields]
  split <;> simp

@[simp] theorem sequencerAdvance_carrying (s : State) :
    sequencerAdvance (s.carrying r) = (sequencerAdvance s).carrying r := by
  simp only [sequencerAdvance, carrying_fields]
  cases s.seq.point with
  | start => exact startCommand_carrying r s
  | settle => exact resumeWait_carrying (by simp) _ s
  | reconfPre => exact resumeWait_carrying (switchSpeed_carrying r) _ s
  | reconfPost => exact resumeWait_carrying (afterReconf_carrying r) _ s
  | setLow => exact resumeWait_carrying (enterText_carrying r) _ s
  | cmdTime => exact resumeWait_carrying (by simp) _ s
  | drain => exact drainStep_carrying r s
  | setHigh => exact resumeWait_carrying (returnSendCommand_carrying r) _ s
  | txFrame | txText => rfl

@[simp] theorem sequencerStep_carrying (s : State) : sequencerStep (s.carrying r) = (sequencerStep s).carrying r := by
  simp only [sequencerStep, carrying_fields]
  split <;> simp

end Carrying

/-- What passes through comes out as it went in: a sequencer step writes none of the three. -/
theorem sequencerStep_keeps_sends (s : State) :
    (sequencerStep s).link.sending = s.link.sending ∧ (sequencerStep s).link.lastSend = s.link.lastSend := by
  have h : sequencerStep s = (sequencerStep s).carrying s := sequencerStep_carrying s s
  rw [h]
  exact ⟨rfl, rfl⟩

end Sys2Proof.Machine

/-! ## Send readiness (43_link_controller.md R211; 70_reset_and_hazards.md R352) -/

namespace Sys2Proof.Machine

/-- TX_READY reads the clock, the record of the last send and TRANSFER_DELAY. -/
theorem txReady_congr {s t : State} (hc : t.cfg = s.cfg) (hn : t.now = s.now)
    (hs : t.link.sending = s.link.sending) (hl : t.link.lastSend = s.link.lastSend) : txReady t = txReady s := by
  rw [txReady, hc, hn, hs, hl, txReady]

/-- Under D47 the time since the last send only grows while the clock advances (92_eei_decisions.md D47). -/
theorem txReady_advanceClock {s : State} {ms : Word} (h : txReady s = true)
    (hms : (elapsed s.now s.link.lastSend).toNat + ms.toNat < 2 ^ 32) : txReady (advanceClock ms s) = true := by
  obtain ⟨hs, hd⟩ := (txReady_iff s).mp h
  have hadd : elapsed (s.now + ms) s.link.lastSend = elapsed s.now s.link.lastSend + ms :=
    add_sub_right_comm ..
  refine (txReady_iff _).mpr ⟨hs, ?_⟩
  calc s.cfg.transferDelay.toNat
      ≤ (elapsed s.now s.link.lastSend).toNat := hd
    _ ≤ (elapsed s.now s.link.lastSend).toNat + ms.toNat := Nat.le_add_right ..
    _ = (elapsed (s.now + ms) s.link.lastSend).toNat := by rw [hadd, BitVec.toNat_add_of_lt hms]

/-- Of the commands only an accepted TX_SEND touches the record of the last send. -/
theorem CommandStep.txReady {s t : State} {i : Instr} (h : CommandStep s i t) (hi : i ≠ .txSend) :
    txReady t = txReady s := by
  cases h with
  | txSend => exact absurd rfl hi
  | _ => exact txReady_congr rfl rfl rfl rfl

theorem hostWrite_txReady {n : Nat} {a : Offset} {v : Word} {s t : State} (h : hostWrite n a v s = .next t) :
    txReady t = txReady s ∨ Event.hostWrite n a v = .hostWrite 4 0x00C 0x00000001 := by
  rcases hostWrite_next h with ⟨rfl, rfl, hi⟩ | hd
  · rcases issueCommand_next hi with ⟨c, rfl⟩ | ⟨i, hi, hx⟩
    · exact .inl (txReady_congr rfl rfl rfl rfl)
    · by_cases htx : i = .txSend
      · exact .inr (by rw [eq_encode_of_decode hi, htx]; rfl)
      · exact .inl (hx.txReady htx)
  · cases hd
    exact .inl (txReady_congr rfl rfl rfl rfl)

theorem now_of_unsequenced_eq {s t : State} (h : t.unsequenced = s.unsequenced) : t.now = s.now :=
  (congrArg State.now h : t.unsequenced.now = s.unsequenced.now)

theorem sequencerStep_txReady (s : State) : txReady (sequencerStep s) = txReady s := by
  have h := sequencerStep_unsequenced s
  obtain ⟨hs, hl⟩ := sequencerStep_keeps_sends s
  exact txReady_congr (cfg_eq_of_unsequenced_eq h) (now_of_unsequenced_eq h) hs hl

/-- A byte of TX_SEND's frame is accepted only while SENDING is 1; a byte of a command text leaves the record alone. -/
theorem State.Inv.transportAccept_txReady {s : State} (h : s.Inv) (hr : txReady s = true) :
    txReady (Machine.transportAccept s) = true := by
  rcases transportAccept_cases s with ⟨_, he⟩ | ⟨b, hb, hpt, _⟩ | ⟨b, _, _, he⟩
  · rwa [he]
  · have hsend : s.link.sending = true := by rw [h.sending, (h.op_of_offered hb).1 hpt]; rfl
    exact absurd (hsend.symm.trans ((txReady_iff s).mp hr).1) (by decide)
  · obtain ⟨p, k, t0, hk⟩ := afterTextByte_eq (Machine.sendByte b s)
    rw [he, hk]
    exact (txReady_congr rfl rfl rfl rfl).trans hr

theorem decoderStep_txReady (s : State) : txReady (decoderStep s) = txReady s := by
  rcases decoderStep_cases s with h | ⟨b, q, _, _, h⟩ <;> rw [h]
  exact txReady_congr rfl rfl rfl rfl

/-- TX_READY stays 1 in every step but TX_SEND's and a reset. -/
theorem State.Inv.perform_txReady {s t : State} (h : s.Inv) {e : Event} (hclock : ClockSampled s e)
    (hp : Machine.perform e s = .next t) (hr : txReady s = true) :
    txReady t = true ∨ e = .hostWrite 4 0x00C 0x00000001 ∨ e = .reset := by
  cases e with
  | hostRead n a => rw [hostRead_next hp]; exact .inl ((txReady_congr rfl rfl rfl rfl).trans hr)
  | hostWrite n a v => exact (hostWrite_txReady hp).imp (fun ht => ht.trans hr) .inl
  | decoderStep => cases hp; exact .inl ((decoderStep_txReady s).trans hr)
  | sequencerStep => cases hp; exact .inl ((sequencerStep_txReady s).trans hr)
  | transportAccept => cases hp; exact .inl (h.transportAccept_txReady hr)
  | transportDeliver | transportRequeue => cases hp; exact .inl ((txReady_congr rfl rfl rfl rfl).trans hr)
  | clockAdvance ms => cases hp; exact .inl (txReady_advanceClock hr (hclock ms rfl).1)
  | reset => exact .inr (.inr rfl)

/-- Settles O21: taking the event off the schedule changes neither the clock nor the record, so D47 still holds. -/
theorem txReadyFallsOnlyByASend : Obligations.TxReadyFallsOnlyByASend := by
  intro s t hinv hclock hst hs ht
  obtain ⟨_, hp⟩ := perform_of_step hst
  have hu := takeEvent_leavesSequencer s
  have hnow : (takeEvent s).now = s.now := by unfold takeEvent; split <;> rfl
  have hready : txReady (takeEvent s) = true := by
    rw [← hs]
    exact txReady_congr hu.cfg hnow (congrArg Link.sending hu.link) (congrArg Link.lastSend hu.link)
  have hclock' : ClockSampled (takeEvent s) (nextEvent s) := by
    unfold ClockSampled
    rwa [hnow, hu.link, hu.seq]
  rcases hinv.takeEvent.perform_txReady hclock' hp hready with h | h
  · exact absurd (h.symm.trans ht) (by decide)
  · exact h

end Sys2Proof.Machine

/-! ## Writing a frame or a command text (43_link_controller.md R214, R220, R231)

TX_SEND's frame and a command's text go out in the same way, one transport acceptance a byte; they differ in where the
bytes stand and in what follows the last of them. -/

namespace Sys2Proof.Machine

/-- `s` with the bytes `out` put on the wire and the byte index at `k`. -/
def State.sent (s : State) (out : List Byte) (k : Nat) : State :=
  { s with trace := (out.map PortAct.txByte).reverse ++ s.trace, seq := { s.seq with k := k } }

@[simp] theorem sent_fields (s : State) (out : List Byte) (k : Nat) :
    (s.sent out k).cfg = s.cfg ∧ (s.sent out k).seq.op = s.seq.op := by
  and_intros <;> rfl

theorem sendByte_sent (s : State) (out : List Byte) (k : Nat) (b : Byte) :
    sendByte b (s.sent out k) = s.sent (out ++ [b]) k := by
  simp [sendByte, State.sent]

/-- The running command is held at the TxBytes of the given bytes, and this follows the last of them. -/
inductive Writing (s : State) : List Byte → (State → State) → Prop where
  | frame (hop : s.seq.op ≠ none) (hpt : s.seq.point = .txFrame) : Writing s s.seq.snap.bytes endTxSend
  | text (hop : s.seq.op ≠ none) (hpt : s.seq.point = .txText) : Writing s (runningText s) enterCmdTime

section Writing

variable {s : State} {bytes : List Byte} {after : State → State} (h : Writing s bytes after)
include h

theorem Writing.offeredByte (out : List Byte) (k : Nat) : offeredByte (s.sent out k) = bytes[k]? := by
  cases h with
  | frame hop hpt | text hop hpt =>
    obtain ⟨op, ho⟩ := Option.ne_none_iff_exists'.mp hop
    simp [Machine.offeredByte, State.sent, ho, hpt, runningText]

/-- One acceptance: the byte is on the wire, and the next one is offered if there is one. -/
theorem Writing.accept (out : List Byte) {k : Nat} (hk : k < bytes.length) :
    transportAccept (s.sent out k) =
      if k + 1 < bytes.length then s.sent (out ++ [bytes[k]]) (k + 1) else after (s.sent (out ++ [bytes[k]]) k) := by
  have hb : Machine.offeredByte (s.sent out k) = some bytes[k] := by
    rw [h.offeredByte, List.getElem?_eq_getElem hk]
  simp only [transportAccept, hb, sendByte_sent]
  cases h with
  | frame hop hpt => rw [if_pos (by exact hpt)]; rfl
  | text hop hpt => rw [if_neg (by simp [State.sent, hpt])]; rfl

theorem Writing.iterate {n : Nat} (hn : n < bytes.length) :
    transportAccept^[n] (s.sent [] 0) = s.sent (bytes.take n) n := by
  induction n with
  | zero => rfl
  | succ n ih =>
    rw [Function.iterate_succ_apply', ih (by omega), h.accept _ (by omega), if_pos hn, List.take_append_getElem]

/-- After one acceptance for each byte, all of them are on the wire and what follows the last has run. -/
theorem Writing.all (hpos : 0 < bytes.length) :
    transportAccept^[bytes.length] (s.sent [] 0) = after (s.sent bytes (bytes.length - 1)) := by
  obtain ⟨n, hn⟩ : ∃ n, bytes.length = n + 1 := ⟨bytes.length - 1, by omega⟩
  have hlt : n < bytes.length := by omega
  rw [hn, Function.iterate_succ_apply', h.iterate hlt, h.accept _ hlt, if_neg (by omega), List.take_append_getElem,
    ← hn, List.take_length, hn, Nat.add_sub_cancel]

end Writing

/-- Settles O12: the two rejections in their order, and the accepted frame byte by byte. -/
theorem txSendWritesItsFrame : Obligations.TxSendWritesItsFrame := by
  intro s
  refine ⟨fun hb => by simp [exec, execTxSend, hb, reject, setCmdStatus],
    fun hb hr => by simp [exec, execTxSend, hb, hr, reject, setCmdStatus], fun hb hr => ?_⟩
  have hw : Writing (startTxSend 0x01 (txFrame s) s) (txFrame s) endTxSend := .frame nofun rfl
  have hstart : (startTxSend 0x01 (txFrame s) s).sent [] 0 = startTxSend 0x01 (txFrame s) s := rfl
  refine ⟨startTxSend 0x01 (txFrame s) s, by simp [exec, execTxSend, hb, hr], rfl, fun n hn => ?_, ?_⟩
  · rw [← hstart, hw.iterate hn]
    exact ⟨rfl, rfl, rfl, hw.offeredByte _ n⟩
  · rw [← hstart, hw.all (length_txFrame_pos s)]
    exact ⟨rfl, rfl, rfl, rfl, rfl⟩

end Sys2Proof.Machine

/-! ## SendCommand, whole (43_link_controller.md R220) -/

namespace Sys2Proof.Machine

theorem sequencerStep_of_running {s : State} (hop : s.seq.op ≠ none) : sequencerStep s = sequencerAdvance s := by
  obtain ⟨op, ho⟩ := Option.ne_none_iff_exists'.mp hop
  rw [sequencerStep, ho]

/-! ### The drain -/

/-- The drain of a SendCommand that has stored `new` in front of the bytes `old` of RESPBUF, with `queue` still in the
transport. -/
def State.draining (s : State) (new old queue : List Byte) : State :=
  { s with
    rxQueue := queue,
    link := { s.link with respBuf := new ++ old, resp := { s.link.resp with len := new.length } },
    seq := { s.seq with point := .drain } }

@[simp] theorem draining_fields (s : State) (new old queue : List Byte) :
    (s.draining new old queue).cfg = s.cfg ∧ (s.draining new old queue).seq.op = s.seq.op := by
  and_intros <;> rfl

theorem drainStep_draining_nil (s : State) (new old : List Byte) :
    drainStep (s.draining new old []) = endDrain false (s.draining new old []) := rfl

theorem drainStep_draining_full {s : State} {new : List Byte} (hfull : new.length = s.cfg.respCap) (old : List Byte)
    (b : Byte) (queue : List Byte) :
    drainStep (s.draining new old (b :: queue)) = endDrain true (s.draining new old (b :: queue)) := if_pos hfull

theorem drainStep_draining_store {s : State} {new : List Byte} (hroom : new.length ≠ s.cfg.respCap) (o b : Byte)
    (old queue : List Byte) :
    drainStep (s.draining new (o :: old) (b :: queue)) = s.draining (new ++ [b]) old queue := by
  have h : drainStep (s.draining new (o :: old) (b :: queue)) =
      storeResponse b queue (s.draining new (o :: old) (b :: queue)) := if_neg hroom
  rw [h]
  simp [storeResponse, State.draining]

theorem sequencerStep_draining {s : State} (hop : s.seq.op ≠ none) (new old queue : List Byte) :
    sequencerStep (s.draining new old queue) = drainStep (s.draining new old queue) := by
  rw [sequencerStep_of_running (by exact hop)]
  rfl

/-- Each iteration stores a byte while there is one and room for it; the one after them ends the drain, and the overflow
bit says whether a byte was left over. -/
theorem sequencerStep_iterate_draining {s : State} (hop : s.seq.op ≠ none) (old : List Byte) :
    ∀ new queue, new.length + old.length = s.cfg.respCap →
      sequencerStep^[min queue.length old.length + 1] (s.draining new old queue) =
        endDrain (decide (old.length < queue.length))
          (s.draining (new ++ queue.take old.length) (old.drop queue.length) (queue.drop old.length)) := by
  induction old with
  | nil =>
    intro new queue hcap
    rw [List.length_nil, Nat.min_zero, Function.iterate_one, sequencerStep_draining hop, List.take_zero,
      List.append_nil, List.drop_zero, List.drop_nil]
    cases queue with
    | nil => rfl
    | cons b queue => exact drainStep_draining_full hcap ..
  | cons o old ih =>
    intro new queue hcap
    have hlen : new.length + (old.length + 1) = s.cfg.respCap := hcap
    cases queue with
    | nil =>
      rw [List.length_nil, Nat.zero_min, Function.iterate_one, sequencerStep_draining hop, drainStep_draining_nil,
        List.take_nil, List.append_nil, List.drop_zero, List.drop_nil]
      rfl
    | cons b queue =>
      have hrest := ih (new ++ [b]) queue (by rw [← hlen, List.length_append, List.length_singleton]; omega)
      rw [List.length_cons, List.length_cons, Nat.succ_min_succ, Function.iterate_succ_apply,
        sequencerStep_draining hop, drainStep_draining_store (by omega), hrest]
      simp

/-! ### The command text -/

theorem enterText_of_empty {s : State} (h : runningText s = []) : enterText s = enterCmdTime s := by
  rw [enterText, h]
  rfl

theorem enterText_of_nonempty {s : State} (h : runningText s ≠ []) : enterText s = startText s := by
  rw [enterText, if_neg (by simpa using h)]

/-- The text goes out, one transport acceptance a byte; then Wait(CMD_TIME) is reached. An empty text has nothing to
send (log entry 5). -/
theorem transportAccept_iterate_enterText {s : State} (hop : s.seq.op ≠ none) :
    ∃ k, transportAccept^[(runningText s).length] (enterText s) = enterCmdTime (s.sent (runningText s) k) := by
  by_cases h : runningText s = []
  · rw [enterText_of_empty h, h]
    exact ⟨s.seq.k, rfl⟩
  · have hw : Writing (startText s) (runningText s) enterCmdTime := .text hop rfl
    rw [enterText_of_nonempty h]
    exact ⟨_, hw.all (List.length_pos_iff.mpr h)⟩

theorem enterText_eq (s : State) : ∃ q, enterText s = { s with seq := q } := by
  by_cases h : runningText s = []
  · rw [enterText_of_empty h]
    obtain ⟨p, hp⟩ := enterCmdTime_eq s
    exact ⟨_, hp⟩
  · rw [enterText_of_nonempty h]
    exact ⟨_, rfl⟩

/-- Wherever SendCommand's first step leaves the sequencer, it has cleared the response and driven the line low. -/
theorem beginSendCommand_eq (s : State) :
    ∃ q, beginSendCommand s = { setMode false (clearResponse s) with seq := q } := by
  unfold beginSendCommand
  rcases beginWait_cases .setLow s.cfg.setLowTime enterText (setMode false (clearResponse s)) with ⟨_, h⟩ | ⟨_, h⟩ <;>
    rw [h]
  · obtain ⟨q, hq⟩ := enterText_eq (startWait .setLow (setMode false (clearResponse s)))
    exact ⟨q, hq⟩
  · exact ⟨_, rfl⟩

theorem beginSendCommand_keeps (s : State) :
    (beginSendCommand s).cfg = s.cfg ∧ (beginSendCommand s).rxQueue = s.rxQueue := by
  obtain ⟨q, hq⟩ := beginSendCommand_eq s
  rw [hq]
  exact ⟨rfl, rfl⟩

/-! ### The waits -/

/-- The state of a SendCommand after Wait(SET_LOW_TIME), the response cleared and the line low. -/
def State.lineLow (s : State) : State :=
  { s with
    now := s.now + s.cfg.setLowTime, trace := .setMode false :: s.trace,
    link := { s.link with modeHigh := false, resp := { len := 0, ovf := false, valid := false } },
    seq := { s.seq with point := .setLow, t0 := s.now } }

@[simp] theorem lineLow_fields (s : State) :
    s.lineLow.cfg = s.cfg ∧ s.lineLow.seq.op = s.seq.op ∧ runningText s.lineLow = runningText s := by
  and_intros <;> rfl

section Waits

variable {s : State} (hop : s.seq.op ≠ none)
include hop

theorem afterWait_beginSendCommand :
    afterWait s.cfg.setLowTime (beginSendCommand s) = enterText s.lineLow := by
  have hlow : advanceClock s.cfg.setLowTime (startWait .setLow (setMode false (clearResponse s))) = s.lineLow := by
    simp only [advanceClock, startWait, setMode, clearResponse, State.lineLow]
  rw [beginSendCommand, afterWait_beginWait .setLow s.cfg.setLowTime enterText, hlow]
  intro u ho hp hc
  rw [sequencerStep_of_running (by rw [ho]; exact hop), sequencerAdvance, hp, hc]
  rfl

theorem afterWait_enterCmdTime :
    afterWait s.cfg.cmdTime (enterCmdTime s) =
      holdAt .drain (advanceClock s.cfg.cmdTime (startWait .cmdTime s)) := by
  refine afterWait_beginWait .cmdTime s.cfg.cmdTime (holdAt .drain) _ fun u ho hp hc => ?_
  rw [sequencerStep_of_running (by rwa [ho]), sequencerAdvance, hp, hc]

theorem afterWait_endDrain (o : Bool) :
    afterWait s.cfg.setHighTime (endDrain o s) =
      returnSendCommand (advanceClock s.cfg.setHighTime (startWait .setHigh (setMode true (setOvf o s)))) := by
  refine afterWait_beginWait .setHigh s.cfg.setHighTime returnSendCommand _ fun u ho hp hc => ?_
  rw [sequencerStep_of_running (by rw [ho]; exact hop), sequencerAdvance, hp, hc]
  rfl

end Waits

/-! ### The whole run -/

/-- What a SendCommand of `text` leaves when it returns, `k` being the place of the text's last byte. -/
def State.responded (s : State) (text : List Byte) (k : Nat) : State :=
  { s with
    now := s.now + s.cfg.setLowTime + s.cfg.cmdTime + s.cfg.setHighTime, rxQueue := s.rxQueue.drop s.cfg.respCap,
    trace := .setMode true :: (text.map PortAct.txByte).reverse ++ .setMode false :: s.trace,
    link := { s.link with
      modeHigh := true,
      respBuf := s.rxQueue.take s.cfg.respCap ++ s.link.respBuf.drop (min s.rxQueue.length s.cfg.respCap),
      resp := { len := min s.rxQueue.length s.cfg.respCap, ovf := false, valid := false } },
    seq := { s.seq with
      point := .setHigh, t0 := s.now + s.cfg.setLowTime + s.cfg.cmdTime, k := k,
      ovf := decide (s.cfg.respCap < s.rxQueue.length) } }

theorem response_responded (s : State) (text : List Byte) (k : Nat) :
    response (s.responded text k) = s.rxQueue.take s.cfg.respCap := by
  rw [response, State.responded]
  exact List.take_left' (by rw [List.length_take, Nat.min_comm])

/-- The state of a SendCommand after Wait(CMD_TIME), the text on the wire. -/
def State.textSent (s : State) (text : List Byte) (k : Nat) : State :=
  { s with
    now := s.now + s.cfg.setLowTime + s.cfg.cmdTime,
    trace := (text.map PortAct.txByte).reverse ++ .setMode false :: s.trace,
    link := { s.link with modeHigh := false, resp := { len := 0, ovf := false, valid := false } },
    seq := { s.seq with point := .cmdTime, t0 := s.now + s.cfg.setLowTime, k := k } }

@[simp] theorem textSent_fields (s : State) (text : List Byte) (k : Nat) :
    (s.textSent text k).cfg = s.cfg ∧ (s.textSent text k).seq.op = s.seq.op := by
  and_intros <;> rfl

theorem sendCommand_reaches_drain {s : State} (hop : s.seq.op ≠ none) :
    ∃ k, afterWait s.cfg.cmdTime
        (transportAccept^[(runningText s).length] (afterWait s.cfg.setLowTime (beginSendCommand s))) =
      (s.textSent (runningText s) k).draining [] s.link.respBuf s.rxQueue := by
  obtain ⟨k, hk⟩ := transportAccept_iterate_enterText (s := s.lineLow) (by simpa using hop)
  have hwait := afterWait_enterCmdTime (s := s.lineLow.sent (runningText s) k) (by simpa using hop)
  simp only [lineLow_fields, sent_fields] at hk hwait
  rw [afterWait_beginSendCommand hop, hk, hwait]
  exact ⟨k, by simp only [holdAt, advanceClock, startWait, State.sent, State.lineLow, State.textSent, State.draining,
    List.nil_append, List.length_nil]⟩

theorem sendCommand_drains {s : State} (hop : s.seq.op ≠ none) (hmem : Memory.wf s = true) (text : List Byte)
    (k : Nat) :
    sequencerStep^[min s.rxQueue.length s.cfg.respCap + 1]
        ((s.textSent text k).draining [] s.link.respBuf s.rxQueue) =
      endDrain (decide (s.cfg.respCap < s.rxQueue.length))
        ((s.textSent text k).draining (s.rxQueue.take s.cfg.respCap) (s.link.respBuf.drop s.rxQueue.length)
          (s.rxQueue.drop s.cfg.respCap)) := by
  obtain ⟨_, _, _, _, hcap⟩ := (memory_wf_iff s).mp hmem
  have h := sequencerStep_iterate_draining (s := s.textSent text k) (by simpa using hop) s.link.respBuf [] s.rxQueue
    (by rw [hcap]; exact Nat.zero_add _)
  rwa [hcap] at h

/-- The whole run of a SendCommand, up to its return to the command (R220). -/
theorem afterSendCommandRun_eq {s : State} (hop : s.seq.op ≠ none) (hmem : Memory.wf s = true) :
    ∃ k, afterSendCommandRun (runningText s).length (beginSendCommand s) =
      returnSendCommand (s.responded (runningText s) k) := by
  obtain ⟨k, hk⟩ := sendCommand_reaches_drain hop
  obtain ⟨hcfg, hqueue⟩ := beginSendCommand_keeps s
  obtain ⟨_, _, _, _, hcap⟩ := (memory_wf_iff s).mp hmem
  have hdrop : s.link.respBuf.drop s.rxQueue.length = s.link.respBuf.drop (min s.rxQueue.length s.cfg.respCap) := by
    rw [← hcap, List.drop_eq_drop_min, Nat.min_comm]
  have hlen : (s.rxQueue.take s.cfg.respCap).length = min s.rxQueue.length s.cfg.respCap := by
    rw [List.length_take, Nat.min_comm]
  refine ⟨k, ?_⟩
  rw [afterSendCommandRun, hcfg, hqueue, hk, sendCommand_drains hop hmem]
  have hwait := afterWait_endDrain (s := (s.textSent (runningText s) k).draining (s.rxQueue.take s.cfg.respCap)
    (s.link.respBuf.drop s.rxQueue.length) (s.rxQueue.drop s.cfg.respCap)) (by simpa using hop)
  simp only [draining_fields, textSent_fields] at hwait
  rw [hwait, hdrop]
  simp only [State.draining, State.textSent, State.responded, advanceClock, startWait, setMode, setOvf, hlen,
    List.cons_append]

theorem runningText_eq {s : State} {text : List Byte} (ha : inCommandMode s = true)
    (hown : s.seq.op = some .sendCommand ∨ s.seq.op = some .probe → text = s.seq.snap.bytes)
    (hdetect : s.seq.op = some .detectSpeed → text = s.cfg.cmdDetect)
    (hdefault : s.seq.op = some .forceDefault → text = s.cfg.cmdDefault)
    (hdirect : s.seq.op = some .setSpeedSafely → s.seq.stage = .direct →
      text = s.cfg.cmdSetSpeed.getD s.seq.snap.arg.toNat [])
    (hfallback : s.seq.op = some .setSpeedSafely → s.seq.stage ≠ .direct → text = s.cfg.cmdDetect) :
    text = runningText s := by
  obtain ⟨op, ho, hm⟩ := op_of_inCommandMode ha
  unfold runningText
  rw [ho]
  cases op with
  | sendCommand => exact hown (.inl ho)
  | probe => exact hown (.inr ho)
  | detectSpeed => exact hdetect ho
  | forceDefault => exact hdefault ho
  | setSpeedSafely =>
    cases hg : s.seq.stage with
    | direct => exact hdirect ho hg
    | follow | search => exact hfallback ho (by rw [hg]; nofun)
  | resetSettle | txSend => cases hm

/-- SEND_COMMAND ends with the return of its SendCommand (R234). -/
theorem returnSendCommand_of_sendCommand {s : State} (ho : s.seq.op = some .sendCommand) :
    returnSendCommand s = endCommandMode (publishResponse s) := by
  have ho' : (publishResponse s).seq.op = some .sendCommand := ho
  rw [returnSendCommand, afterSendCommand, ho']

/-- Settles O58: the first step, the run and its result for any running text, the return, and SEND_COMMAND's end. -/
theorem sendCommandReturnsItsResponse : Obligations.SendCommandReturnsItsResponse := by
  refine ⟨fun s text ha hmem hown hdetect hdefault hdirect hfallback => ?_, fun s hop hpt hover => ?_,
    fun s ho => ⟨?_, ?_⟩⟩
  · obtain rfl := runningText_eq ha hown hdetect hdefault hdirect hfallback
    obtain ⟨q, hq⟩ := beginSendCommand_eq s
    obtain ⟨op, ho, _⟩ := op_of_inCommandMode ha
    obtain ⟨k, hk⟩ := afterSendCommandRun_eq (by rw [ho]; nofun) hmem
    rw [hq] at hk ⊢
    exact ⟨rfl, rfl, _, hk, response_responded .., rfl⟩
  · rw [sequencerStep_of_running hop, sequencerAdvance, hpt]
    exact if_pos (decide_eq_true hover)
  · intro hpt
    rw [sequencerStep_of_running (by rw [ho]; nofun), sequencerAdvance, hpt]
    simp only [startCommand, ho]
  · rw [returnSendCommand_of_sendCommand ho]
    rfl

end Sys2Proof.Machine

/-! ## Running a schedule (20_memory.md R70)

No agent looks at the schedule, so a part of it runs as the agents' steps do, whatever is scheduled after it. -/

namespace Sys2Proof.Machine

/-- `s` with another schedule. -/
def State.onSchedule (s : State) (es : List Event) : State := { s with pending := es }

@[simp] theorem onSchedule_fields (s : State) (es : List Event) :
    (s.onSchedule es).seq = s.seq ∧ runningText (s.onSchedule es) = runningText s ∧
    offeredByte (s.onSchedule es) = offeredByte s := by
  and_intros <;> rfl

theorem sequencerStep_onSchedule (s : State) (es : List Event) :
    sequencerStep (s.onSchedule es) = (sequencerStep s).onSchedule es := by
  obtain ⟨hs, hl⟩ := sequencerStep_keeps_sends s
  calc sequencerStep (s.onSchedule es)
      = (sequencerStep s).carrying (s.onSchedule es) := sequencerStep_carrying (s.onSchedule es) s
    _ = (sequencerStep s).onSchedule es := by simp only [State.carrying, State.onSchedule, ← hs, ← hl]

theorem afterFrameByte_onSchedule (s : State) (es : List Event) :
    afterFrameByte (s.onSchedule es) = (afterFrameByte s).onSchedule es := by
  simp only [afterFrameByte, onSchedule_fields]
  split <;> rfl

theorem enterCmdTime_onSchedule (s : State) (es : List Event) :
    enterCmdTime (s.onSchedule es) = (enterCmdTime s).onSchedule es := by
  obtain ⟨p, h⟩ := enterCmdTime_eq s
  calc enterCmdTime (s.onSchedule es)
      = (enterCmdTime s).carrying (s.onSchedule es) := enterCmdTime_carrying (s.onSchedule es) s
    _ = (enterCmdTime s).onSchedule es := by rw [h]; rfl

theorem afterTextByte_onSchedule (s : State) (es : List Event) :
    afterTextByte (s.onSchedule es) = (afterTextByte s).onSchedule es := by
  simp only [afterTextByte, onSchedule_fields, enterCmdTime_onSchedule]
  split <;> rfl

theorem transportAccept_onSchedule (s : State) (es : List Event) :
    transportAccept (s.onSchedule es) = (transportAccept s).onSchedule es := by
  have hsend (b : Byte) : sendByte b (s.onSchedule es) = (sendByte b s).onSchedule es := rfl
  simp only [transportAccept, onSchedule_fields, hsend, afterFrameByte_onSchedule, afterTextByte_onSchedule]
  cases offeredByte s with
  | none => rfl
  | some b => dsimp only; split <;> rfl

/-- The events `es` take the machine from `s` to `t`, whatever is scheduled after them. -/
structure Runs (es : List Event) (s t : State) : Prop where
  cfg : t.cfg = s.cfg
  run : ∀ (rest : List Event) (n : Nat), s.cfg.wf = true →
    core.run (es.length + n) (s.onSchedule (es ++ rest)) = core.run n (t.onSchedule rest)

theorem Runs.append {es es' : List Event} {s t u : State} (h : Runs es s t) (h' : Runs es' t u) :
    Runs (es ++ es') s u where
  cfg := h'.cfg.trans h.cfg
  run rest n hwf := by
    rw [List.length_append, Nat.add_assoc, List.append_assoc, h.run _ _ hwf, h'.run _ _ (by rwa [h.cfg])]

theorem run_succ_of_step {s t : State} (h : step s = .next t) (n : Nat) : core.run (n + 1) s = core.run n t := by
  have hcore : core.step s = .next t := h
  simp only [Host.Core.run, hcore]

theorem runs_of_perform {e : Event} {s t : State}
    (h : ∀ rest, perform e (s.onSchedule rest) = .next (t.onSchedule rest)) : Runs [e] s t where
  cfg := perform_cfg e (s := s.onSchedule []) (t := t.onSchedule []) (h [])
  run rest n hwf := by
    have hstep : step (s.onSchedule (e :: rest)) = .next (t.onSchedule rest) :=
      (step_of_pending (s := s.onSchedule (e :: rest)) hwf rfl).trans (h rest)
    rw [List.length_singleton, Nat.add_comm]
    exact run_succ_of_step hstep n

theorem runs_sequencerStep (s : State) : Runs [.sequencerStep] s (sequencerStep s) :=
  runs_of_perform fun rest => congrArg Host.Outcome.next (sequencerStep_onSchedule s rest)

theorem runs_transportAccept (s : State) : Runs [.transportAccept] s (transportAccept s) :=
  runs_of_perform fun rest => congrArg Host.Outcome.next (transportAccept_onSchedule s rest)

theorem runs_clockAdvance (d : Word) (s : State) : Runs [.clockAdvance d] s (advanceClock d s) :=
  runs_of_perform fun _ => rfl

theorem Runs.replicate {e : Event} {f : State → State} (h : ∀ s, Runs [e] s (f s)) (n : Nat) (s : State) :
    Runs (List.replicate n e) s (f^[n] s) := by
  induction n generalizing s with
  | zero => exact ⟨rfl, fun rest n _ => by rw [List.replicate_zero, List.length_nil, Nat.zero_add]; rfl⟩
  | succ n ih => exact (h s).append (ih (f s))

/-- The write of a command word issues its command. -/
theorem runs_command {i : Instr} {s t : State} (h : ∀ rest, exec i (s.onSchedule rest) = .next (t.onSchedule rest)) :
    Runs [.hostWrite 4 0x00C (encode i)] s t :=
  runs_of_perform fun rest => (issueCommand_of_run (decode_encode i) _).trans (h rest)

/-- A schedule run to its end. -/
theorem Runs.run_all {s t : State} (h : Runs s.pending s t) (hwf : s.cfg.wf = true) :
    core.run s.pending.length s = .next (t.onSchedule []) := by
  have hrun := h.run [] 0 hwf
  rw [List.append_nil] at hrun
  exact hrun

/-! ### SEND_COMMAND on its schedule -/

/-- A clock step of length `d` and a sequencer step make a wait take exactly its time also where `d` is 0 and the wait
was passed already, if what the sequencer does after them leads to a state in which it has no step. -/
theorem sequencerStep_advanceClock_eq_afterWait {d : Word} {s : State} (n : Nat)
    (h : sequencerStep (sequencerStep^[n] (afterWait d s)) = sequencerStep^[n] (afterWait d s)) :
    sequencerStep^[n] (sequencerStep (advanceClock d s)) = sequencerStep^[n] (afterWait d s) := by
  unfold afterWait at h ⊢
  split_ifs at h ⊢ with hd
  · have hclock : advanceClock 0 s = s := by rw [advanceClock, show s.now + 0 = s.now from BitVec.add_zero _]
    rw [hd, hclock, ← Function.iterate_succ_apply, Function.iterate_succ_apply', h]
  · rfl

/-- At a TxByte the sequencer has no step of its own (43_link_controller.md R214). -/
theorem sequencerStep_txText {s : State} (hpt : s.seq.point = .txText) : sequencerStep s = s := by
  unfold sequencerStep
  split
  · rfl
  · rw [sequencerAdvance, hpt]

theorem sequencerStep_returnSendCommand {s : State} (ho : s.seq.op = some .sendCommand) :
    sequencerStep (returnSendCommand s) = returnSendCommand s := by
  rw [returnSendCommand_of_sendCommand ho]
  exact (sequencer_idle rfl).1

/-- The step that reaches a wait of some length leaves the sequencer held there (R213). -/
theorem resumeWait_startWait {p : Point} {d : Word} (hd : d ≠ 0) (after : State → State) (s : State) :
    resumeWait d after (startWait p s) = startWait p s := by
  have hpos : d.toNat ≠ 0 := fun h => hd (BitVec.eq_of_toNat_eq h)
  rcases resumeWait_cases d after (startWait p s) with ⟨hover, _⟩ | ⟨_, h⟩
  · exact absurd hover (by simpa [waitOver, elapsed] using hpos)
  · exact h

/-- Once its drain has ended SEND_COMMAND waits for the clock, or has ended too (R213, R234). -/
theorem sequencerStep_endDrain {s : State} (ho : s.seq.op = some .sendCommand) (o : Bool) :
    sequencerStep (endDrain o s) = endDrain o s := by
  unfold endDrain
  rcases beginWait_cases .setHigh s.cfg.setHighTime returnSendCommand (setMode true (setOvf o s)) with
    ⟨_, h⟩ | ⟨hd, h⟩ <;> rw [h]
  · exact sequencerStep_returnSendCommand ho
  · rw [sequencerStep_of_running (by simp [ho])]
    exact resumeWait_startWait hd returnSendCommand _

section Scheduled

variable {s : State} (ho : s.seq.op = some .sendCommand)
include ho

/-- SEND_COMMAND's text is on offer once Wait(SET_LOW_TIME) has passed. -/
theorem sendCommand_lowers_on_schedule (htext : runningText s ≠ []) :
    sequencerStep (advanceClock s.cfg.setLowTime (beginSendCommand s)) =
      afterWait s.cfg.setLowTime (beginSendCommand s) := by
  refine sequencerStep_advanceClock_eq_afterWait 0 (sequencerStep_txText ?_)
  rw [Function.iterate_zero, id, afterWait_beginSendCommand (by rw [ho]; nofun),
    enterText_of_nonempty (by simpa using htext)]
  rfl

/-- Its drain has ended before the last wait's time is given to it. -/
theorem sendCommand_drains_on_schedule (hmem : Memory.wf s = true) :
    sequencerStep^[min s.rxQueue.length s.cfg.respCap + 1] (sequencerStep (advanceClock s.cfg.cmdTime
        (transportAccept^[(runningText s).length] (afterWait s.cfg.setLowTime (beginSendCommand s))))) =
      sequencerStep^[min s.rxQueue.length s.cfg.respCap + 1] (afterWait s.cfg.cmdTime
        (transportAccept^[(runningText s).length] (afterWait s.cfg.setLowTime (beginSendCommand s)))) := by
  have hop : s.seq.op ≠ none := by rw [ho]; nofun
  obtain ⟨k, hk⟩ := sendCommand_reaches_drain hop
  refine sequencerStep_advanceClock_eq_afterWait _ ?_
  rw [hk, sendCommand_drains hop hmem]
  exact sequencerStep_endDrain (by simpa using ho) _

/-- From its first step on, SEND_COMMAND's schedule is a run of its SendCommand, whatever its waits are. -/
theorem sendCommand_runs_on_schedule (htext : runningText s ≠ []) (hmem : Memory.wf s = true) :
    sequencerStep (advanceClock s.cfg.setHighTime
      (sequencerStep^[min s.rxQueue.length s.cfg.respCap + 1] (sequencerStep (advanceClock s.cfg.cmdTime
        (transportAccept^[(runningText s).length] (sequencerStep (advanceClock s.cfg.setLowTime
          (beginSendCommand s)))))))) =
      afterSendCommandRun (runningText s).length (beginSendCommand s) := by
  obtain ⟨k, hk⟩ := afterSendCommandRun_eq (by rw [ho]; nofun) hmem
  have hrest : sequencerStep (afterSendCommandRun (runningText s).length (beginSendCommand s)) =
      afterSendCommandRun (runningText s).length (beginSendCommand s) := by
    rw [hk]
    exact sequencerStep_returnSendCommand ho
  obtain ⟨hcfg, hqueue⟩ := beginSendCommand_keeps s
  rw [sendCommand_lowers_on_schedule ho htext, sendCommand_drains_on_schedule ho hmem]
  rw [afterSendCommandRun, hcfg, hqueue] at hrest ⊢
  exact sequencerStep_advanceClock_eq_afterWait 0 hrest

end Scheduled

/-- The state that an accepted SEND_COMMAND leaves (R234). -/
def State.commanded (s : State) : State :=
  startCommandMode .sendCommand 0x10 .direct { bytes := commandText s, arg := 0 } s

/-- The events of the schedule, one after another. -/
theorem runs_sendCommandSchedule {s : State} (hb : s.busy = false) (hl : badCommandLength s = false) :
    Runs (sendCommandSchedule s) s
      (sequencerStep (advanceClock s.cfg.setHighTime
        (sequencerStep^[min s.rxQueue.length s.cfg.respCap + 1] (sequencerStep (advanceClock s.cfg.cmdTime
          (transportAccept^[s.cmdLen.toNat] (sequencerStep (advanceClock s.cfg.setLowTime
            (sequencerStep s.commanded))))))))) := by
  have hwrite : Runs [.hostWrite 4 0x00C 0x00000010] s s.commanded :=
    runs_command (i := .sendCommand) fun rest => exec_sendCommand_accepted (s := s.onSchedule rest) hb hl
  have hlow := ((hwrite.append (runs_sequencerStep _)).append (runs_clockAdvance s.cfg.setLowTime _)).append
    (runs_sequencerStep _)
  have htext := hlow.append (Runs.replicate runs_transportAccept s.cmdLen.toNat _)
  have hwait := htext.append ((runs_clockAdvance s.cfg.cmdTime _).append (runs_sequencerStep _))
  have hdrain := hwait.append (Runs.replicate runs_sequencerStep (min s.rxQueue.length s.cfg.respCap + 1) _)
  exact hdrain.append ((runs_clockAdvance s.cfg.setHighTime _).append (runs_sequencerStep _))

/-- SEND_COMMAND on its schedule ends as its SendCommand returns. -/
theorem runs_sendCommand {s : State} (hmem : Memory.wf s = true) (hb : s.busy = false) (h1 : 1 ≤ s.cmdLen.toNat)
    (hcap : s.cmdLen.toNat ≤ s.cfg.cmdCap) :
    ∃ k, Runs (sendCommandSchedule s) s
      (endCommandMode (publishResponse (s.commanded.responded (commandText s) k))) := by
  obtain ⟨_, _, _, hbuf, _⟩ := (memory_wf_iff s).mp hmem
  have hlen : (commandText s).length = s.cmdLen.toNat := by
    rw [commandText, List.length_take, hbuf, Nat.min_eq_left hcap]
  have htext : commandText s ≠ [] := List.length_pos_iff.mp (by rw [hlen]; exact h1)
  have hmem' : Memory.wf s.commanded = true := hmem
  obtain ⟨k, hk⟩ := afterSendCommandRun_eq (s := s.commanded) nofun hmem'
  have hruns := runs_sendCommandSchedule hb ((badCommandLength_eq_false_iff s).mpr ⟨h1, hcap⟩)
  have hfirst : sequencerStep s.commanded = beginSendCommand s.commanded := rfl
  have hschedule := sendCommand_runs_on_schedule (s := s.commanded) rfl htext hmem'
  rw [hk, returnSendCommand_of_sendCommand rfl] at hschedule
  rw [hfirst, ← hlen] at hruns
  exact ⟨k, hschedule ▸ hruns⟩

/-- Settles O14: `State.responded` says what the run leaves, and SEND_COMMAND publishes the response and ends. -/
theorem sendCommandRunsToItsResult : Obligations.SendCommandRunsToItsResult := by
  intro s hwf hmem hb h1 hcap hpend
  obtain ⟨k, hruns⟩ := runs_sendCommand hmem hb h1 hcap
  rw [← hpend] at hruns
  exact ⟨_, hruns.run_all hwf, rfl, rfl, rfl, rfl, response_responded s.commanded (commandText s) k, rfl, rfl, rfl, rfl⟩

end Sys2Proof.Machine

/-! ## Reconf (44_baud_prober.md R250)

The two waits of a Reconf that take exactly their times leave one state, `State.reconfigured`, whether their lengths are 0
or not; what the command does there is `afterReconf`. The prober's commands differ only in the state that begins a Reconf. -/

namespace Sys2Proof.Machine

/-- The state in which Reconf(i) has passed both of its waits. -/
def State.reconfigured (s : State) (i : Nat) : State :=
  { s with
    now := s.now + s.cfg.tReconfPre + s.cfg.tReconfPost, trace := .reconfigure (speedAt s.cfg i) :: s.trace,
    link := { s.link with speedIdx := i }, seq := { s.seq with point := .reconfPost, t0 := s.now + s.cfg.tReconfPre } }

theorem afterReconf_of_search {s : State} (hg : s.seq.stage = .search) : afterReconf s = beginSendCommand s := by
  rw [afterReconf, hg]

theorem afterReconf_of_follow {s : State} (hg : s.seq.stage = .follow) : afterReconf s = endSetSpeed s := by
  rw [afterReconf, hg]

section Waits

variable {s : State} (hop : s.seq.op ≠ none)
include hop

theorem afterWait_beginReconf :
    afterWait s.cfg.tReconfPre (beginReconf s) =
      switchSpeed (advanceClock s.cfg.tReconfPre (startWait .reconfPre s)) := by
  refine afterWait_beginWait .reconfPre s.cfg.tReconfPre switchSpeed s fun u ho hp hc => ?_
  rw [sequencerStep_of_running (by rwa [ho]), sequencerAdvance, hp, hc]

theorem afterWait_switchSpeed :
    afterWait s.cfg.tReconfPost (switchSpeed s) =
      afterReconf (advanceClock s.cfg.tReconfPost (startWait .reconfPost (reconfigureTo (reconfIndex s) s))) := by
  refine afterWait_beginWait .reconfPost s.cfg.tReconfPost afterReconf _ fun u ho hp hc => ?_
  rw [sequencerStep_of_running (by rw [ho]; exact hop), sequencerAdvance, hp, hc]
  rfl

theorem afterReconfWaits_beginReconf :
    afterReconfWaits (beginReconf s) = afterReconf (s.reconfigured (reconfIndex s)) := by
  have hpost := afterWait_switchSpeed (s := advanceClock s.cfg.tReconfPre (startWait .reconfPre s)) hop
  rw [afterReconfWaits, cfg_eq_of_unsequenced_eq (beginReconf_unsequenced s), afterWait_beginReconf hop]
  simp only [advanceClock, startWait, reconfigureTo, reconfIndex, State.reconfigured] at hpost ⊢
  exact hpost

/-- In a loop over the speed table a SendCommand follows, at the loop's index (R252, R255). -/
theorem afterReconfWaits_of_search (hg : s.seq.stage = .search) :
    afterReconfWaits (beginReconf s) = beginSendCommand (s.reconfigured s.seq.i) := by
  have hi : reconfIndex s = s.seq.i := by rw [reconfIndex, hg]
  rw [afterReconfWaits_beginReconf hop, hi]
  exact afterReconf_of_search hg

/-- After an acknowledged SET_SPEED_SAFELY the command ends, at its target (R256). -/
theorem afterReconfWaits_of_follow (hg : s.seq.stage = .follow) :
    afterReconfWaits (beginReconf s) = endSetSpeed (s.reconfigured s.seq.snap.arg.toNat) := by
  have hi : reconfIndex s = s.seq.snap.arg.toNat := by rw [reconfIndex, hg]
  rw [afterReconfWaits_beginReconf hop, hi]
  exact afterReconf_of_follow hg

end Waits

/-! ### The result registers of the prober (10_state.md R34, R35) -/

/-- PROBE and SETSPEED. -/
def State.proberResults (s : State) : ProbeReg × SetSpeedReg := (s.probe, s.setSpeed)

theorem probe_setSpeed_of_proberResults {s t : State} (h : t.proberResults = s.proberResults) :
    t.probe = s.probe ∧ t.setSpeed = s.setSpeed :=
  Prod.mk.inj h

theorem beginWait_proberResults {p : Point} {after : State → State} {s : State} (t : Word)
    (hafter : (after (startWait p s)).proberResults = s.proberResults) :
    (beginWait p t after s).proberResults = s.proberResults := by
  rcases beginWait_cases p t after s with ⟨_, h⟩ | ⟨_, h⟩ <;> rw [h]
  · exact hafter
  · rfl

theorem beginSendCommand_proberResults (s : State) : (beginSendCommand s).proberResults = s.proberResults := by
  obtain ⟨q, hq⟩ := beginSendCommand_eq s
  rw [hq]
  rfl

theorem afterReconf_proberResults {s : State} (hg : s.seq.stage = .search) :
    (afterReconf s).proberResults = s.proberResults := by
  rw [afterReconf_of_search hg]
  exact beginSendCommand_proberResults s

/-- However far the step that begins a Reconf of a loop gets, it writes neither register. -/
theorem beginReconf_proberResults {s : State} (hg : s.seq.stage = .search) :
    (beginReconf s).proberResults = s.proberResults :=
  beginWait_proberResults _ (beginWait_proberResults _ (afterReconf_proberResults hg))

/-! ### The first steps of the prober's commands -/

theorem sequencerStep_of_start {s : State} (hop : s.seq.op ≠ none) (hpt : s.seq.point = .start) :
    sequencerStep s = startCommand s := by
  rw [sequencerStep_of_running hop, sequencerAdvance, hpt]

end Sys2Proof.Machine

/-! ## ProbeLoop (44_baud_prober.md R252)

Each return of a SendCommand in ProbeLoop takes one of four branches. Three of them end the loop, with three values of
PROBE; what that end does in the command that ran the loop is said once, for any value (`State.probed`). -/

namespace Sys2Proof.Machine

theorem isAck_iff (resp : List Byte) (ovf : Bool) :
    isAck resp ovf = true ↔ ovf = false ∧ resp.take 2 = [0x4F, 0x4B] := by
  simp [isAck]

/-- The sequencer is in ProbeLoop: in PROBE, DETECT_SPEED or SET_SPEED_SAFELY's fallback. -/
structure InProbeLoop (s : State) : Prop where
  op    : s.seq.op = some .probe ∨ s.seq.op = some .detectSpeed ∨ s.seq.op = some .setSpeedSafely
  stage : s.seq.stage = .search

theorem InProbeLoop.running {s : State} (h : InProbeLoop s) : s.seq.op ≠ none := by
  rcases h.op with ho | ho | ho <;> rw [ho] <;> nofun

/-- The last step of ProbeLoop, in which the response is published, PROBE takes its value and the command ends. -/
def State.probed (s : State) (p : ProbeReg) : State := afterProbeLoop (setProbe p (publishResponse s))

theorem probed_of_probe {s : State} (ho : s.seq.op = some .probe) (p : ProbeReg) :
    s.probed p = endCommandMode (setProbe p (publishResponse s)) := by
  simp only [State.probed, afterProbeLoop, setProbe_fields, publishResponse_fields, ho]

theorem probed_of_detectSpeed {s : State} (ho : s.seq.op = some .detectSpeed) (p : ProbeReg) :
    s.probed p = endCommandMode (emit (diagOf p) (setProbe p (publishResponse s))) := by
  simp only [State.probed, afterProbeLoop, setProbe_fields, publishResponse_fields, ho]

theorem probed_of_setSpeedSafely {s : State} (ho : s.seq.op = some .setSpeedSafely) (p : ProbeReg) :
    s.probed p = endSetSpeed (emit (diagOf p) (setProbe p (publishResponse s))) := by
  simp only [State.probed, afterProbeLoop, setProbe_fields, publishResponse_fields, ho]

theorem InProbeLoop.probed {s : State} (h : InProbeLoop s) (p : ProbeReg) :
    (s.probed p).probe = p ∧ (s.probed p).busy = false ∧ (s.probed p).cmdActive = false := by
  rcases h.op with ho | ho | ho
  · rw [probed_of_probe ho]; exact ⟨rfl, rfl, rfl⟩
  · rw [probed_of_detectSpeed ho]; exact ⟨rfl, rfl, rfl⟩
  · rw [probed_of_setSpeedSafely ho]; exact ⟨rfl, rfl, rfl⟩

/-- A detection reports its outcome (R254, R256). -/
theorem probed_trace {s : State} (ho : s.seq.op = some .detectSpeed ∨ s.seq.op = some .setSpeedSafely) (p : ProbeReg) :
    (s.probed p).trace = .emit (diagOf p) :: s.trace := by
  rcases ho with ho | ho
  · rw [probed_of_detectSpeed ho]; rfl
  · rw [probed_of_setSpeedSafely ho]; rfl

theorem probed_setSpeed {s : State} (ho : s.seq.op = some .probe ∨ s.seq.op = some .detectSpeed) (p : ProbeReg) :
    (s.probed p).setSpeed = s.setSpeed := by
  rcases ho with ho | ho
  · simp [probed_of_probe ho]
  · simp [probed_of_detectSpeed ho]

section Branches

variable {s : State} (h : InProbeLoop s)
include h

theorem InProbeLoop.returnSendCommand : returnSendCommand s = probeResult (publishResponse s) := by
  rw [Machine.returnSendCommand, afterSendCommand]
  rcases h.op with ho | ho | ho <;> simp only [publishResponse_fields, ho, h.stage]

theorem InProbeLoop.of_overflow (hovf : s.seq.ovf = true) :
    Machine.returnSendCommand s =
      s.probed { valid := true, found := false, overflow := true, index := BitVec.ofNat 8 s.seq.i } := by
  rw [h.returnSendCommand]
  exact if_pos hovf

theorem InProbeLoop.of_ack (hovf : s.seq.ovf = false) (hack : (response s).take 2 = [0x4F, 0x4B]) :
    Machine.returnSendCommand s =
      s.probed { valid := true, found := true, overflow := false, index := BitVec.ofNat 8 s.seq.i } := by
  have hack' : isAck (response (publishResponse s)) false = true := (isAck_iff _ _).mpr ⟨rfl, hack⟩
  rw [h.returnSendCommand, probeResult, if_neg (by simp [hovf]), if_pos hack']
  rfl

theorem InProbeLoop.of_no_ack (hovf : s.seq.ovf = false) (hack : (response s).take 2 ≠ [0x4F, 0x4B]) :
    Machine.returnSendCommand s =
      if s.seq.i + 1 < s.cfg.k then beginReconf (setIndex (s.seq.i + 1) (publishResponse s))
      else s.probed { valid := true, found := false, overflow := false, index := BitVec.ofNat 8 s.cfg.k } := by
  have hack' : ¬ isAck (response (publishResponse s)) false = true := fun hk => hack ((isAck_iff _ _).mp hk).2
  rw [h.returnSendCommand, probeResult, if_neg (by simp [hovf]), if_neg hack']
  rfl

theorem InProbeLoop.of_exhausted (hovf : s.seq.ovf = false) (hack : (response s).take 2 ≠ [0x4F, 0x4B])
    (hlast : s.seq.i + 1 = s.cfg.k) :
    Machine.returnSendCommand s =
      s.probed { valid := true, found := false, overflow := false, index := BitVec.ofNat 8 s.cfg.k } := by
  rw [h.of_no_ack hovf hack, if_neg (by omega)]

/-- An overflow, an acknowledgement and the end of the table each end the loop. -/
theorem InProbeLoop.ends
    (hend : s.seq.ovf = true ∨ (response s).take 2 = [0x4F, 0x4B] ∨ s.seq.i + 1 = s.cfg.k) :
    ∃ p, Machine.returnSendCommand s = s.probed p := by
  by_cases hovf : s.seq.ovf = true
  · exact ⟨_, h.of_overflow hovf⟩
  · rw [Bool.not_eq_true] at hovf
    by_cases hack : (response s).take 2 = [0x4F, 0x4B]
    · exact ⟨_, h.of_ack hovf hack⟩
    · exact ⟨_, h.of_exhausted hovf hack ((hend.resolve_left (by simp [hovf])).resolve_left hack)⟩

end Branches

/-- The first step of PROBE and DETECT_SPEED begins ProbeLoop (R253, R254). -/
theorem sequencerStep_of_start_of_probe {s : State} (ho : s.seq.op = some .probe ∨ s.seq.op = some .detectSpeed)
    (hpt : s.seq.point = .start) : sequencerStep s = beginProbeLoop s := by
  rcases ho with ho | ho <;>
    simp only [sequencerStep_of_start (s := s) (by rw [ho]; nofun) hpt, startCommand, ho]

theorem beginProbeLoop_probe (s : State) : (beginProbeLoop s).probe = { s.probe with valid := false } :=
  (probe_setSpeed_of_proberResults (beginReconf_proberResults rfl)).1

theorem afterReconfWaits_beginProbeLoop {s : State} (hop : s.seq.op ≠ none) :
    afterReconfWaits (beginProbeLoop s) =
      beginSendCommand ((setIndex 0 (setStage .search (invalidateProbe s))).reconfigured 0) :=
  afterReconfWaits_of_search hop rfl

/-- Settles O16: ProbeLoop's start, and its four branches. -/
theorem probeLoopPrecedence : Obligations.ProbeLoopPrecedence := by
  refine ⟨fun s ho hpt => ?_, fun s ho hg _ _ => ?_⟩
  · have hop : s.seq.op ≠ none := by rcases ho with ho | ho <;> rw [ho] <;> nofun
    rw [sequencerStep_of_start_of_probe ho hpt]
    exact ⟨beginProbeLoop_probe s, afterReconfWaits_beginProbeLoop hop⟩
  · have h : InProbeLoop s := ⟨ho, hg⟩
    refine ⟨fun hovf => ?_, fun hovf hack => ?_, fun hovf hack hnext => ?_, fun hovf hack hlast => ?_⟩
    · rw [h.of_overflow hovf]
      exact h.probed _
    · rw [h.of_ack hovf hack]
      exact h.probed _
    · rw [h.of_no_ack hovf hack, if_pos hnext]
      exact afterReconfWaits_of_search h.running hg
    · rw [h.of_exhausted hovf hack hlast]
      exact h.probed _

/-- SET_SPEED_SAFELY's fallback runs with `ack` 0 (R256). -/
theorem State.Inv.ack_of_search {s : State} (h : s.Inv) (ho : s.seq.op = some .setSpeedSafely)
    (hg : s.seq.stage = .search) : s.seq.ack = false := by
  rw [h.seq.ack ho (by rw [hg]; nofun), hg]
  rfl

/-- Settles O17: `probed_trace` at the three values of PROBE; the rest holds of any value. -/
theorem detectSpeedEmitsItsOutcome : Obligations.DetectSpeedEmitsItsOutcome := by
  intro s hg hi hk
  have hindex : (BitVec.ofNat 8 s.seq.i).toNat = s.seq.i := by
    rw [BitVec.toNat_ofNat]
    exact Nat.mod_eq_of_lt (by omega)
  refine ⟨fun ho => ?_, fun hend => ⟨fun ho => ?_, fun ho => ?_, fun ho hinv => ?_⟩⟩
  · have h : InProbeLoop s := ⟨.inr ho, hg⟩
    refine ⟨fun hovf => ?_, fun hovf hack => ?_, fun hovf hack hlast => ?_⟩
    · rw [h.of_overflow hovf, probed_trace ho]
      simp [diagOf, hindex]
    · rw [h.of_ack hovf hack, probed_trace ho]
      simp [diagOf, hindex]
    · rw [h.of_exhausted hovf hack hlast, probed_trace ho]
      simp [diagOf]
  · obtain ⟨p, hp⟩ := InProbeLoop.ends ⟨.inl ho, hg⟩ hend
    rw [hp, probed_of_probe ho]
    rfl
  · obtain ⟨p, hp⟩ := InProbeLoop.ends ⟨ho.imp_right .inl, hg⟩ hend
    rw [hp, probed_setSpeed ho]
  · obtain ⟨p, hp⟩ := InProbeLoop.ends ⟨.inr (.inr ho), hg⟩ hend
    rw [hp, probed_of_setSpeedSafely ho]
    exact ⟨congrArg (SetSpeedReg.mk true · s.seq.snap.arg) (hinv.ack_of_search ho hg), rfl, rfl⟩

end Sys2Proof.Machine

/-! ## FORCE_DEFAULT (44_baud_prober.md R255) -/

namespace Sys2Proof.Machine

section Steps

variable {s : State} (ho : s.seq.op = some .forceDefault)
include ho

theorem returnSendCommand_of_forceDefault : returnSendCommand s =
    if s.seq.i + 1 < s.cfg.k then beginReconf (setIndex (s.seq.i + 1) (publishResponse s))
    else endCommandMode (publishResponse s) := by
  have ho' : (publishResponse s).seq.op = some .forceDefault := ho
  rw [returnSendCommand, afterSendCommand, ho']
  rfl

theorem sequencerStep_of_start_of_forceDefault (hpt : s.seq.point = .start) :
    sequencerStep s = beginReconf (setIndex 0 s) := by
  rw [sequencerStep_of_start (by rw [ho]; nofun) hpt, startCommand, ho]

theorem returnSendCommand_of_forceDefault_proberResults (hg : s.seq.stage = .search) :
    (returnSendCommand s).proberResults = s.proberResults := by
  rw [returnSendCommand_of_forceDefault ho]
  split
  · exact beginReconf_proberResults hg
  · rfl

end Steps

/-- Settles O18: the first step and the two branches of the loop, whatever the response. -/
theorem forceDefaultTriesEverySpeed : Obligations.ForceDefaultTriesEverySpeed := by
  intro s ho hg
  have hop : s.seq.op ≠ none := by rw [ho]; nofun
  refine ⟨fun hpt => ?_, fun hnext => ?_, fun hlast => ?_,
    probe_setSpeed_of_proberResults (returnSendCommand_of_forceDefault_proberResults ho hg)⟩
  · rw [sequencerStep_of_start_of_forceDefault ho hpt]
    exact afterReconfWaits_of_search hop hg
  · rw [returnSendCommand_of_forceDefault ho, if_pos hnext]
    exact afterReconfWaits_of_search hop hg
  · rw [returnSendCommand_of_forceDefault ho, if_neg (by omega)]
    rfl

end Sys2Proof.Machine

/-! ## SET_SPEED_SAFELY (44_baud_prober.md R256) -/

namespace Sys2Proof.Machine

section Steps

variable {s : State} (ho : s.seq.op = some .setSpeedSafely)
include ho

theorem sequencerStep_of_start_of_setSpeedSafely (hpt : s.seq.point = .start) :
    sequencerStep s = beginSendCommand s := by
  rw [sequencerStep_of_start (by rw [ho]; nofun) hpt, startCommand, ho]

section Direct

variable (hg : s.seq.stage = .direct)
include hg

theorem returnSendCommand_of_direct : returnSendCommand s = setSpeedNext (publishResponse s) := by
  rw [returnSendCommand, afterSendCommand]
  simp only [publishResponse_fields, ho, hg]

theorem returnSendCommand_of_direct_ack (hack : isAck (response s) s.seq.ovf = true) :
    returnSendCommand s = beginReconf (setStage .follow (setAck true (publishResponse s))) := by
  have hack' : isAck (response (publishResponse s)) (publishResponse s).link.resp.ovf = true := hack
  simp only [returnSendCommand_of_direct ho hg, setSpeedNext, hack', if_true]

theorem returnSendCommand_of_direct_no_ack (hack : isAck (response s) s.seq.ovf = false) :
    returnSendCommand s = beginProbeLoop (setAck false (publishResponse s)) := by
  have hack' : isAck (response (publishResponse s)) (publishResponse s).link.resp.ovf = false := hack
  simp only [returnSendCommand_of_direct ho hg, setSpeedNext, hack', Bool.false_eq_true, if_false]

end Direct

end Steps

/-- Settles O19: the first step, the acknowledged branch to its end, the fallback to its first SendCommand, and the `ack`
that the invariant keeps in the fallback. -/
theorem setSpeedFollowsOrFallsBack : Obligations.SetSpeedFollowsOrFallsBack := by
  intro s ho
  have hop : s.seq.op ≠ none := by rw [ho]; nofun
  refine ⟨sequencerStep_of_start_of_setSpeedSafely ho, fun hg hovf hack => ?_, fun hg hno => ?_,
    fun hinv hg => hinv.ack_of_search ho hg⟩
  · rw [returnSendCommand_of_direct_ack ho hg ((isAck_iff _ _).mpr ⟨hovf, hack⟩)]
    rw [afterReconfWaits_of_follow (s := setStage .follow (setAck true (publishResponse s))) hop rfl]
    simp only [endSetSpeed, endCommandMode, publishSetSpeed, State.reconfigured, setStage, setAck, publishResponse,
      speedAt]
  · have hack : isAck (response s) s.seq.ovf = false := by
      rw [← Bool.not_eq_true, isAck_iff, not_and_or, Bool.not_eq_false]
      exact hno
    rw [returnSendCommand_of_direct_no_ack ho hg hack]
    refine ⟨beginProbeLoop_probe _, ?_⟩
    rw [afterReconfWaits_beginProbeLoop (s := setAck false (publishResponse s)) hop]
    simp only [State.reconfigured, setIndex, setStage, invalidateProbe, setAck, publishResponse, speedAt]

end Sys2Proof.Machine

/-! ## The checks of a command write, and what a rejection leaves (60_exceptions.md R300 to R302) -/

namespace Sys2Proof.Machine

/-- The checks of R301 that read the state, in their order, for a command of opcode `o` and ARG `a`: the code of the first
that fails, and 0 where none does. The two before them are the decoder's (30_encoding.md R95). -/
def acceptanceCode (o a : Byte) (s : State) : BitVec 4 :=
  if o ∈ ([0x01, 0x10, 0x11, 0x12, 0x13, 0x14] : List Byte) ∧ s.busy = true then 3
  else if (o ∈ ([0x10, 0x11] : List Byte) ∧ (s.cmdLen.toNat = 0 ∨ s.cfg.cmdCap < s.cmdLen.toNat)) ∨
      (o = 0x14 ∧ s.cfg.k ≤ a.toNat) then 4
  else if o = 0x01 ∧ txReady s = false then 5
  else if o = 0x04 ∧ s.rx.phase ≠ .frameComplete then 6
  else 0

/-- The order of a sequencer command's checks: BUSY comes before the command's own. -/
theorem acceptanceCode_of_busy {i : Instr} {s : State} (hb : s.busy = true)
    (hi : i.opcode ∈ ([0x01, 0x10, 0x11, 0x12, 0x13, 0x14] : List Byte)) : acceptanceCode i.opcode i.arg s = 3 :=
  if_pos ⟨hi, hb⟩

/-- SEND_COMMAND and PROBE check the length of the command text after BUSY. -/
theorem acceptanceCode_of_text {o : Byte} (ho : o = 0x10 ∨ o = 0x11) (a : Byte) {s : State} (hb : s.busy = false) :
    acceptanceCode o a s = if badCommandLength s then 4 else 0 := by
  rcases ho with rfl | rfl <;> simp [acceptanceCode, badCommandLength, hb]

/-- A command leaves the code of the first check it fails. -/
theorem exec_causeCode (i : Instr) {s t : State} (h : exec i s = .next t) :
    t.cmdStatus.cause.code = acceptanceCode i.opcode i.arg s := by
  cases i with
  | nop | rxRearm | chkCompute => cases h; rfl
  | txSend =>
    rcases execTxSend_cases s with ⟨hb, he⟩ | ⟨hb, hr, he⟩ | ⟨hb, hr, he⟩ <;> cases he.symm.trans h
    · exact (acceptanceCode_of_busy hb (by decide)).symm
    all_goals simp [acceptanceCode, Instr.opcode, Cause.code, hb, hr]
  | chkVerify =>
    rcases execChkVerify_cases s with ⟨hp, he⟩ | ⟨hp, he⟩ <;> cases he.symm.trans h <;>
      simp [acceptanceCode, Instr.opcode, Cause.code, hp]
  | sendCommand =>
    rcases execSendCommand_cases s with ⟨hb, he⟩ | ⟨hb, hl, he⟩ | ⟨hb, hl, he⟩ <;> cases he.symm.trans h
    · exact (acceptanceCode_of_busy hb (by decide)).symm
    all_goals simp [acceptanceCode_of_text, Instr.opcode, Cause.code, hb, hl]
  | probe =>
    rcases execProbe_cases s with ⟨hb, he⟩ | ⟨hb, hl, he⟩ | ⟨hb, hl, he⟩ <;> cases he.symm.trans h
    · exact (acceptanceCode_of_busy hb (by decide)).symm
    all_goals simp [acceptanceCode_of_text, Instr.opcode, Cause.code, hb, hl]
  | detectSpeed =>
    rcases execDetectSpeed_cases s with ⟨hb, he⟩ | ⟨hb, he⟩ <;> cases he.symm.trans h
    · exact (acceptanceCode_of_busy hb (by decide)).symm
    · simp [acceptanceCode, Instr.opcode, Cause.code, hb]
  | forceDefault =>
    rcases execForceDefault_cases s with ⟨hb, he⟩ | ⟨hb, he⟩ <;> cases he.symm.trans h
    · exact (acceptanceCode_of_busy hb (by decide)).symm
    · simp [acceptanceCode, Instr.opcode, Cause.code, hb]
  | setSpeedSafely u =>
    rcases execSetSpeedSafely_cases u s with ⟨hb, he⟩ | ⟨hb, hu, he⟩ | ⟨hb, hu, he⟩ <;> cases he.symm.trans h
    · exact (acceptanceCode_of_busy hb (by simp [Instr.opcode])).symm
    · simp [acceptanceCode, Instr.opcode, Instr.arg, Cause.code, hb, hu]
    · simp [acceptanceCode, Instr.opcode, Instr.arg, Cause.code, hb, hu.not_ge]

theorem readOffset_cause (s : State) : (readOffset s 0x008).extractLsb' 0 4 = s.cmdStatus.cause.code :=
  (cmdStatusWord_fields s).1

/-- The decoder's two checks come first; a word that passes them is its command's encoding, whose own checks follow. -/
theorem issueCommand_causeCode {w : Word} {s t : State} (h : issueCommand w s = .next t) :
    t.cmdStatus.cause.code =
      if opcOf w ∉ legalOpcodes then 1
      else if rsvOf w ≠ 0 ∨ (opcOf w ≠ 0x14 ∧ argOf w ≠ 0) then 2
      else acceptanceCode (opcOf w) (argOf w) s := by
  unfold issueCommand at h
  split at h
  · next hd =>
    cases h
    rw [if_pos ((decode_eq_illegalOpcode_iff w).mp hd)]
    rfl
  · next hd =>
    cases h
    obtain ⟨ho, hr⟩ := (decode_eq_reservedBits_iff w).mp hd
    rw [if_neg (not_not.mpr ho), if_pos ((reservedSet_iff w).mp hr)]
    rfl
  · next i hd =>
    obtain rfl := eq_encode_of_decode hd
    have hlegal : opcOf (encode i) ∈ legalOpcodes := opcOf_encode i ▸ opcode_mem_legalOpcodes i
    have hres := (reservedSet_iff (encode i)).not.mp (Bool.eq_false_iff.mp (reservedSet_encode i))
    rw [if_neg (not_not.mpr hlegal), if_neg hres, opcOf_encode, argOf_encode]
    exact exec_causeCode i h

/-- Settles O5: CMD_STATUS bits 3:0 read the code of the cause, and `acceptanceCode` has the checks in the table's order. -/
theorem firstFailingCheckGivesTheCause : Obligations.FirstFailingCheckGivesTheCause :=
  fun _ _ t h => (readOffset_cause t).trans (issueCommand_causeCode h)

/-- Of the ways a command's step can end, only the one that writes CMD_STATUS alone leaves a cause. -/
theorem CommandStep.of_rejected {s t : State} {i : Instr} (h : CommandStep s i t) (hc : t.cmdStatus.cause ≠ .accepted) :
    t = setCmdStatus t.cmdStatus.cause i.opcode s := by
  cases h with
  | status i c => rfl
  | _ => exact absurd rfl hc

/-- Settles O6: a word the decoder rejects writes CMD_STATUS alone, and so does a command that rejects. -/
theorem rejectionChangesOnlyStatus : Obligations.RejectionChangesOnlyStatus := by
  intro w s t h hc
  rcases issueCommand_next h with ⟨c, rfl⟩ | ⟨i, hi, hx⟩
  · rfl
  · rw [eq_encode_of_decode hi, opcOf_encode]
    exact hx.of_rejected hc

end Sys2Proof.Machine

/-! ## When a step is refused (60_exceptions.md R307; 00_scope.md R6; 20_memory.md R61) -/

namespace Sys2Proof.Machine

/-- The event is a host access of size `n` at offset `a` (20_memory.md R61). -/
def IsAccess (e : Event) (n : Nat) (a : Offset) : Prop := e = .hostRead n a ∨ ∃ v, e = .hostWrite n a v

theorem perform_of_malformed {e : Event} {n : Nat} {a : Offset} (he : IsAccess e n a)
    (hform : ¬ (n = 4 ∧ a.toNat % 4 = 0)) (s : State) : perform e s = .refused .badAccess := by
  rcases he with rfl | ⟨v, rfl⟩
  · exact ((onlyAlignedWordAccesses s n a 0).2 hform).1
  · exact ((onlyAlignedWordAccesses s n a v).2 hform).2

theorem perform_has_next {e : Event} (he : ∀ n a, IsAccess e n a → n = 4 ∧ a.toNat % 4 = 0) (s : State) :
    ∃ t, perform e s = .next t := by
  cases e with
  | hostRead n a => exact ⟨_, ((onlyAlignedWordAccesses s n a 0).1 (he n a (.inl rfl))).1⟩
  | hostWrite n a v => exact ((onlyAlignedWordAccesses s n a v).1 (he n a (.inr ⟨v, rfl⟩))).2
  | decoderStep | sequencerStep | transportAccept | transportDeliver | transportRequeue | clockAdvance | reset =>
    exact ⟨_, rfl⟩

/-- Settles O51: on a well-formed configuration the step is its event's, and of the events only a host access has a form. -/
theorem stepsStopOnlyAsTheSpecSays : Obligations.StepsStopOnlyAsTheSpecSays := by
  refine fun s => ⟨fun hwf => if_neg (Bool.eq_false_iff.mp hwf), fun hwf => ?_⟩
  have hstep : step s = perform (nextEvent s) (takeEvent s) := if_pos hwf
  rw [hstep]
  by_cases hform : ∀ n a, IsAccess (nextEvent s) n a → n = 4 ∧ a.toNat % 4 = 0
  · exact .inr ⟨perform_has_next hform _, hform⟩
  · push Not at hform
    obtain ⟨n, a, he, hno⟩ := hform
    exact .inl ⟨perform_of_malformed he (fun ⟨hn, ha⟩ => hno hn ha) _, n, a, fun ⟨hn, ha⟩ => hno hn ha, he⟩

end Sys2Proof.Machine

/-! ## The waits (43_link_controller.md R213; 70_reset_and_hazards.md R350)

A held wait is left only by a sequencer step at which its condition holds, so before that no agent's step moves the
sequencer: the other agents do not write it, a command is accepted only with BUSY 0, and no byte is on offer. -/

namespace Sys2Proof.Machine

/-- The sequencer's position is one of a Wait of length `d` whose condition does not hold (R213). -/
structure HeldAtWait (d : Word) (s : State) : Prop where
  wait    : waitLength s = some d
  notOver : waitOver d s = false

theorem heldAtWait_of_elapsed_lt {d : Word} {s : State} (hw : waitLength s = some d)
    (hlt : (elapsed s.now s.seq.t0).toNat < d.toNat) : HeldAtWait d s :=
  ⟨hw, decide_eq_false (Nat.not_le.mpr hlt)⟩

theorem resumeWait_of_not_over {t : Word} {s : State} (h : waitOver t s = false) (after : State → State) :
    resumeWait t after s = s :=
  if_neg (Bool.eq_false_iff.mp h)

theorem resumeWait_of_over {t : Word} {s : State} (h : waitOver t s = true) (after : State → State) :
    resumeWait t after s = after s :=
  if_pos h

/-- The sequencer has no step while the wait's condition is false (R213; log entry 7). -/
theorem HeldAtWait.sequencerStep {d : Word} {s : State} (h : HeldAtWait d s) : sequencerStep s = s := by
  obtain ⟨hw, hover⟩ := h
  by_cases hop : s.seq.op = none
  · exact (sequencer_idle hop).1
  rw [sequencerStep_of_running hop, sequencerAdvance]
  cases hpt : s.seq.point <;> rw [waitLength, hpt] at hw <;> cases hw
  all_goals exact resumeWait_of_not_over hover _

/-- A wait offers the transport no byte (R214). -/
theorem HeldAtWait.transportAccept {d : Word} {s : State} (h : HeldAtWait d s) : transportAccept s = s := by
  have hoff : offeredByte s = none := by
    have hw := h.wait
    unfold waitLength at hw
    unfold offeredByte
    cases s.seq.op with
    | none => rfl
    | some _ => cases hpt : s.seq.point <;> rw [hpt] at hw <;> cases hw <;> rfl
  rw [Machine.transportAccept, hoff]

/-- A command write leaves a busy sequencer as it is (60_exceptions.md R301). -/
theorem hostWrite_seq_of_busy {n : Nat} {a : Offset} {v : Word} {s t : State} (hb : s.busy = true)
    (h : hostWrite n a v s = .next t) : t.seq = s.seq := by
  rcases hostWrite_next h with ⟨_, _, hi⟩ | hd
  · rcases issueCommand_next hi with ⟨c, rfl⟩ | ⟨i, _, hx⟩
    · rfl
    · exact hx.seq.resolve_right fun ⟨hidle, _⟩ => Bool.false_ne_true (hidle.symm.trans hb)
  · exact hd.leavesSequencer.seq

/-- While the block is busy with a wait no step but a reset moves the sequencer. -/
theorem HeldAtWait.perform_seq {d : Word} {s t : State} (h : HeldAtWait d s) (hb : s.busy = true) {e : Event}
    (hp : perform e s = .next t) (hr : e ≠ .reset) : t.seq = s.seq := by
  cases e with
  | hostRead n a => rw [hostRead_next hp]
  | hostWrite n a v => exact hostWrite_seq_of_busy hb hp
  | decoderStep => cases hp; exact (decoderStep_leavesSequencer s).seq
  | sequencerStep => cases hp; rw [h.sequencerStep]
  | transportAccept => cases hp; rw [h.transportAccept]
  | transportDeliver | transportRequeue | clockAdvance => cases hp; rfl
  | reset => exact absurd rfl hr

theorem takeEvent_now (s : State) : (takeEvent s).now = s.now := by
  unfold takeEvent
  split <;> rfl

/-- Taking an event off the schedule passes no wait. -/
theorem HeldAtWait.takeEvent {d : Word} {s : State} (h : HeldAtWait d s) : HeldAtWait d (takeEvent s) := by
  obtain ⟨hw, hover⟩ := h
  have hseq := (takeEvent_leavesSequencer s).seq
  constructor
  · rwa [waitLength, hseq, takeEvent_cfg]
  · rwa [waitOver, takeEvent_now, hseq]

/-- Settles O22: no agent moves the sequencer at a wait, and BUSY is by the invariant what the sequencer's state says. -/
theorem waitsCannotBeShortened : Obligations.WaitsCannotBeShortened := by
  intro s t d hinv hop hw hlt hst hr
  have hheld := heldAtWait_of_elapsed_lt hw hlt
  obtain ⟨_, hp⟩ := perform_of_step hst
  have hu := takeEvent_leavesSequencer s
  have hb : s.busy = true := hinv.busy.trans (Option.isSome_iff_ne_none.mpr hop)
  have hseq : t.seq = s.seq := (hheld.takeEvent.perform_seq (hu.busy.trans hb) hp hr).trans hu.seq
  have ht := hinv.takeEvent.perform hp
  exact ⟨hseq, by rw [ht.busy, hseq, ← hinv.busy, hb], hheld.sequencerStep⟩

end Sys2Proof.Machine

/-! ## Reset (70_reset_and_hazards.md R340 to R346) -/

namespace Sys2Proof.Machine

/-- Settles O53: the settle phase is a wait of SET_HIGH_TIME. -/
theorem resetSettlesThenIdle : Obligations.ResetSettlesThenIdle := by
  intro s hop hpt
  refine ⟨fun hlt => ?_, fun hle => ?_⟩
  · exact (heldAtWait_of_elapsed_lt (by rw [waitLength, hpt]) hlt).sequencerStep
  · rw [sequencerStep_of_running (by simp [hop]), sequencerAdvance, hpt]
    exact resumeWait_of_over (decide_eq_true hle) endSettle

/-- Settles O56: the block at `State.reset` is a power-up with a well-formed configuration. -/
theorem powerUpHasTheInvariant : Obligations.PowerUpHasTheInvariant :=
  ⟨fun _ now d h => powerOn_inv now d h, powerOn_inv 0 0 (by decide)⟩

theorem step_of_reset {s : State} (hwf : s.cfg.wf = true) (he : nextEvent s = .reset) :
    step s = .next (resetStep (takeEvent s)) := by
  rw [step, if_pos hwf, he, perform]

/-- After a reset the result registers hold what they hold at `State.reset`, whatever the configuration, and read 0 (R340). -/
theorem readOffset_resetStep (s : State) :
    readOffset (resetStep s) 0x008 = 0 ∧ readOffset (resetStep s) 0x02C = 0 ∧
    readOffset (resetStep s) 0x034 = 0 ∧ readOffset (resetStep s) 0x038 = 0 ∧ readOffset (resetStep s) 0x03C = 0 := by
  change cmdStatusWord State.reset = 0 ∧ verifyWord State.reset = 0 ∧ respStatusWord State.reset = 0 ∧
    probeWord State.reset = 0 ∧ setSpeedWord State.reset = 0
  decide

/-- Of the block's earlier state a reset keeps the configuration, and otherwise only what stands outside the block (R346). -/
theorem resetStep_congr {s u : State} (hcfg : u.cfg = s.cfg) (hnow : u.now = s.now) (hdraws : u.draws = s.draws)
    (hqueue : u.rxQueue = s.rxQueue) (htrace : u.trace = s.trace) (hrdata : u.rdata = s.rdata)
    (hpending : u.pending = s.pending) : resetStep u = resetStep s := by
  rw [resetStep, hcfg, hnow, hdraws, hqueue, htrace, hrdata, hpending, resetStep]

/-- Settles O52: reset is a power-up (R340) but for what stands outside the block. -/
theorem resetValues : Obligations.ResetValues := by
  refine ⟨fun s => step_of_reset, fun s => ?_⟩
  obtain ⟨hstatus, hverify, hresp, hprobe, hset⟩ := readOffset_resetStep s
  refine ⟨?flags, ⟨hstatus, rfl, rfl, rfl, rfl, rfl, hverify, rfl, hresp, hprobe, hset⟩, ?link, rfl, ?congr⟩
  case flags => and_intros <;> rfl
  case link => and_intros <;> rfl
  case congr => exact fun u => resetStep_congr

end Sys2Proof.Machine
